-- ==== Sys2Proof/Word.lean ====
section
/-! DEFINITION. The words of the MZ-84: characters, two-character numbers, doorway and slot numbers. -/

namespace Sys2Proof

/-- One character of a port, one byte of the configuration image. -/
abbrev Byte := BitVec 8

/-- A number of two characters, most significant first (R182). -/
abbrev Half := BitVec 16

/-- A doorway number, 0 to 7 (00_scope 3.2). -/
abbrev Door := Fin 8

/-- A slot number of the Hold Table, 0 to 63 (R1). -/
abbrev SlotNo := Fin 64

/-- A position in encoder steps, 0 to 1023 (R49). -/
abbrev Position := Fin 1024

/-- The level of a hold, 0 to 7 (R7). -/
abbrev HoldLevel := Fin 8

/-- A doorway set: bit d set means that doorway d is in the set (R182). -/
abbrev DoorSet := BitVec 8

/-- A set of notice kinds, one bit a kind (Table 11-2). -/
abbrev KindSet := BitVec 8

end Sys2Proof
end

