-- ==== Sys2Proof/Syntax.lean ====
section
/-! DEFINITION. The commands of the MZ-84, one constructor per row of spec/opcode_table.json, and the
types of their operands. -/

namespace Sys2Proof

/-- The two link ports (R163). -/
inductive Port where
  | t | s
deriving DecidableEq, Repr

/-- The two sides of the car: doorways 0 to 3 and 4 to 7 (00_scope 3.2). -/
inductive Side where
  | left | right
deriving DecidableEq, Repr

/-- The level of a line, at its pin or after its filter (R102). -/
inductive Level where
  | low | high
deriving DecidableEq, Repr

/-- The sixty filtered lines (Table 5-1). -/
inductive Line where
  | relL | relR | zspd | mkey
  | btn (d : Door) | hdl (d : Door) | edge (d : Door) | cls (d : Door) | lks (d : Door)
  | frc (d : Door) | bflt (d : Door)
deriving DecidableEq, Repr

/-- The five line classes (Table 5-1). -/
inductive LineClass where
  | release | panel | edge | switch | drive
deriving DecidableEq, Repr

/-- The seven issuers (Table 1-4), in code order (Table 11-2). -/
inductive Issuer where
  | trn | atd | mnt | rln | pnl | grd | hdl
deriving DecidableEq, Repr

/-- The five kinds of hold RELEASE, OPEN, CLOSE, ISOLATE, EGRESS (Table 1-3), in code order. -/
inductive HoldKind where
  | release | opens | closes | isolate | egress
deriving DecidableEq, Repr

/-- The nineteen channel states, in the row order of Table 3-2. `isOpen` is the channel state OPEN. -/
inductive ChState where
  | unfitted | unreferenced | referencing | locked | unlocking | plugOut | slideOpen | isOpen
  | openBlocked | stopping | warning | slideClose | plugIn | locking | reseat | relief
  | standing | egress | faulted
deriving DecidableEq, Repr

/-- The entries that a channel reports to the Hold Table with retirements (R22). -/
inductive EntryKind where
  | standing | faulted | egress
deriving DecidableEq, Repr

/-- The two switches of a doorway: the closed switch CLSd and the locked switch LKSd. -/
inductive Switch where
  | closed | locked
deriving DecidableEq, Repr

/-- The direction of a step: +1 opening, -1 closing (R48). -/
inductive Dir where
  | opening | closing
deriving DecidableEq, Repr

/-- A handle: epoch, slot and generation, one character each (R4). -/
structure Handle where
  epoch : Byte
  slot : Byte
  generation : Byte
deriving DecidableEq, Repr

/-- An internal placement (R14): the issuer, its fixed slot, the level, the lifetime in tenths (`none`
is unlimited), whether the countdown is to wait, and the open limit (`none` is absent). -/
structure Placement where
  issuer : Issuer
  slot : SlotNo
  level : HoldLevel
  lifetime : Option Nat
  waiting : Bool
  limit : Option Nat
deriving DecidableEq, Repr

/-- The parameters of PLACE as they stand on the wire (Tables 8-3 and 11-3). -/
structure PlaceParams where
  kind : Byte
  scope : DoorSet
  level : Byte
  options : Byte
  lifetime : Half
  openLimit : Half
  tag : Half
deriving DecidableEq, Repr

/-- The parameters of AMEND as they stand on the wire (Table 11-3). -/
structure AmendParams where
  handle : Handle
  marks : Byte
  level : Byte
  scope : DoorSet
  openLimit : Half
  rwl : Byte
  tag : Half
deriving DecidableEq, Repr

/-- A character as the receiver finds it (R163): the data bits, the parity bit as received (without
meaning where the port has parity none) and whether the first stop bit was high. -/
structure RxChar where
  data : Byte
  parityBit : Bool
  stopHigh : Bool
deriving DecidableEq, Repr

/-- The commands of the part, in the order of spec/opcode_table.json. A request command carries its
port, its sequence character and its parameters as wire values. -/
inductive Instr where
  | presence (p : Port) (seq : Byte)
  | place (p : Port) (seq : Byte) (q : PlaceParams)
  | amend (p : Port) (seq : Byte) (q : AmendParams)
  | renew (p : Port) (seq : Byte) (h : Handle) (lifetime : Half)
  | retire (p : Port) (seq : Byte) (h : Handle)
  | withdraw (p : Port) (seq : Byte) (kind : Byte)
  | lookup (p : Port) (seq : Byte) (h : Handle)
  | survey (p : Port) (seq : Byte) (start : Byte) (issuer : Byte) (kind : Byte)
  | doorwayReport (p : Port) (seq : Byte) (doors : DoorSet)
  | carReport (p : Port) (seq : Byte)
  | clearObstruction (p : Port) (seq : Byte) (doors : DoorSet)
  | clearFault (p : Port) (seq : Byte) (doors : DoorSet)
  | panel (p : Port) (seq : Byte) (side : Byte) (action : Byte)
  | collectNotices (p : Port) (seq : Byte)
  | noticeMask (p : Port) (seq : Byte) (kinds : KindSet)
  | configRead (p : Port) (seq : Byte) (offset : Half) (count : Byte)
  | configWrite (p : Port) (seq : Byte) (offset : Half) (data : List Byte)
  | configStore (p : Port) (seq : Byte)
  | startRun (p : Port) (seq : Byte)
  | restart (p : Port) (seq : Byte)
  | storeCompletion
  | messageCompletion (p : Port) (ch : RxChar)
  | messageAbandoned (p : Port)
  | answerSent (p : Port)
  | supervisionIntervalExpiry (p : Port)
  | supervisionGraceExpiry (p : Port)
  | linkLost (p : Port)
  | powerOn
  | resetLineAsserted
  | resetLineReleased
  | channelRunEntry (d : Door)
  | lineInputRunEntry
  | lineAcceptance (l : Line) (lv : Level)
  | internalPlacement (q : Placement)
  | raise (i : SlotNo)
  | lineDroppedRetirement (sd : Side)
  | panelOffRetirement (sd : Side)
  | expiry (i : SlotNo)
  | countdownStart (d : Door)
  | channelEntryAtTable (d : Door) (e : EntryKind)
  | provenEvent (d : Door)
  | encoderStep (d : Door) (dir : Dir)
  | illegalTransition (d : Door)
  | clsAcceptedAtChannel (d : Door) (lv : Level)
  | lksAcceptedAtChannel (d : Door) (lv : Level)
  | bfltAcceptedAtChannel (d : Door) (lv : Level)
  | edgeAcceptedAtGuard (d : Door) (lv : Level)
  | frcAcceptedAtGuard (d : Door) (lv : Level)
  | stallIntervalExpiry (d : Door)
  | stallGraceExpiry (d : Door)
  | warningIntervalExpiry (d : Door)
  | reversalPauseExpiry (d : Door)
  | travelTimerExpiry (d : Door)
  | unlockWaitExpiry (d : Door)
  | lockWaitExpiry (d : Door)
  | retryWaitExpiry (d : Door)
  | plausibilityTimerExpiry (d : Door)
  | flashPhaseExpiry (d : Door)
  | provenFlagUpdate (d : Door) (sw : Switch) (lv : Level)
  | channelStateAtClu (d : Door) (st : ChState)
  | zspdAtClu (lv : Level)
  | provingTimerExpiry
  | characterReceived (p : Port) (ch : RxChar)
  | lineSample (c : LineClass) (levels : List Level)
  | supplyLoss
deriving DecidableEq, Repr

end Sys2Proof
end

