-- ==== Sys2Proof/Config.lean ====
section
/-! DEFINITION. What an implementation fixes and the spec leaves open: the free values. -/

namespace Sys2Proof.Config

/-- The free values (log 10): the n-th value that the spec leaves open. It has no body, so nothing can
be proved of it. Its uses keep the bounds the spec states: the remaining lifetime of a report (R8), the
proving time elapsed (R127), how much of the image a cut-short store has written (R177), and the bytes
and bits of answers to which Tables 11-5 and 11-6 give no content. -/
opaque freeValue : Nat → Nat

end Sys2Proof.Config
end

