-- ==== Sys2Proof/Machine/Layout.lean ====
section
/-! DEFINITION. The fixed assignments of the part: slots to issuers (Table 1-1), doorways to sides,
lines to classes (Table 5-1). -/

namespace Sys2Proof.Machine

/-- The doorways in ascending order. -/
def doors : List Door := [0, 1, 2, 3, 4, 5, 6, 7]

/-- The slots in ascending order. -/
def slotNos : List SlotNo := (List.range 64).map (Fin.ofNat 64)

/-- The other port. -/
def otherPort : Port → Port
  | .t => .s
  | .s => .t

/-- Doorways 0 to 3 form the left side, 4 to 7 the right side (00_scope 3.2). -/
def sideOf (d : Door) : Side := if d.val < 4 then .left else .right

/-- The doorways of a side. -/
def sideDoors : Side → List Door
  | .left => [0, 1, 2, 3]
  | .right => [4, 5, 6, 7]

/-- The four doorways of a side as a set. -/
def sideSet : Side → DoorSet
  | .left => 0x0F#8
  | .right => 0xF0#8

/-- Membership in a doorway set (R182). -/
def has (sc : DoorSet) (d : Door) : Bool := sc.getLsbD d.val

/-- The set of one doorway. -/
def single (d : Door) : DoorSet := (1#8) <<< d.val

/-- A set that names exactly one doorway (R9). -/
def isSingle (sc : DoorSet) : Bool := doors.any (fun d => sc == single d)

/-- Slot of the RLN hold of a side (Table 1-1). -/
def rlnSlot : Side → SlotNo
  | .left => 0
  | .right => 1

/-- Slot 2+d: the PNL hold of doorway d (Table 1-1). -/
def pnlSlot (d : Door) : SlotNo := ⟨2 + d.val, by omega⟩

/-- Slot 10+d: the GRD hold of doorway d (Table 1-1). -/
def grdSlot (d : Door) : SlotNo := ⟨10 + d.val, by omega⟩

/-- Slot 18+d: the HDL hold of doorway d (Table 1-1). -/
def hdlSlot (d : Door) : SlotNo := ⟨18 + d.val, by omega⟩

/-- What a slot is kept for (R2). -/
inductive SlotRole where
  | rln (sd : Side)
  | pnl (d : Door)
  | grd (d : Door)
  | hdl (d : Door)
  | pool
deriving DecidableEq, Repr

/-- Table 1-1: slots 0 to 25 are fixed, 26 to 63 form the pool. -/
def slotRole (i : SlotNo) : SlotRole :=
  if i.val = 0 then .rln .left
  else if i.val = 1 then .rln .right
  else if h : i.val < 10 then .pnl ⟨i.val - 2, by omega⟩
  else if h : i.val < 18 then .grd ⟨i.val - 10, by omega⟩
  else if h : i.val < 26 then .hdl ⟨i.val - 18, by omega⟩
  else .pool

/-- A pool slot, 26 to 63 (R2). -/
def isPool (i : SlotNo) : Bool := decide (26 ≤ i.val)

/-- The pool slots in ascending order. -/
def poolSlots : List SlotNo := slotNos.filter isPool

/-- The internal issuer to which a slot is reserved, `none` for a pool slot (Table 1-1). -/
def SlotRole.issuer : SlotRole → Option Issuer
  | .rln _ => some .rln
  | .pnl _ => some .pnl
  | .grd _ => some .grd
  | .hdl _ => some .hdl
  | .pool => none

/-- The scope of an internal hold is fixed by its slot (R10). -/
def SlotRole.scope : SlotRole → DoorSet
  | .rln sd => sideSet sd
  | .pnl d => single d
  | .grd d => single d
  | .hdl d => single d
  | .pool => 0#8

/-- The kind of an internal issuer (R14). -/
def SlotRole.kind : SlotRole → HoldKind
  | .rln _ => .release
  | .pnl _ => .opens
  | .grd _ => .opens
  | .hdl _ => .egress
  | .pool => .opens

/-- The class of a line (Table 5-1). -/
def classOf : Line → LineClass
  | .relL => .release
  | .relR => .release
  | .zspd => .release
  | .mkey => .panel
  | .btn _ => .panel
  | .hdl _ => .panel
  | .edge _ => .edge
  | .cls _ => .switch
  | .lks _ => .switch
  | .frc _ => .drive
  | .bflt _ => .drive

/-- The lines of a class in the order in which Table 5-1 lists them. -/
def linesOf : LineClass → List Line
  | .release => [.relL, .relR, .zspd]
  | .panel => doors.map Line.btn ++ doors.map Line.hdl ++ [.mkey]
  | .edge => doors.map Line.edge
  | .switch => doors.map Line.cls ++ doors.map Line.lks
  | .drive => doors.map Line.frc ++ doors.map Line.bflt

/-- The release line of a side. -/
def relLine : Side → Line
  | .left => .relL
  | .right => .relR

end Sys2Proof.Machine
end

