-- ==== Sys2Proof/WellFormed.lean ====
section
/-! DEFINITION. Which commands are well formed: the operands that no type already bounds. -/

namespace Sys2Proof

open Machine

/-- R183: one CONFIG_WRITE carries at most 27 data bytes, since its frame admits 32 body characters. -/
def writeFits (data : List Byte) : Bool := decide (data.length ≤ 27)

/-- R103: the lines of a class are sampled together, so a sample names one level for each of them. -/
def sampleFits (c : LineClass) (levels : List Level) : Bool := levels.length == (linesOf c).length

/-- R14, R2, R9: an internal placement names the fixed slot of its issuer; only PNL and GRD placements wait,
and only a GRD placement names an open limit. -/
def placementShape (q : Placement) : Bool :=
  ((slotRole q.slot).issuer == some q.issuer) &&
  (!q.waiting || q.issuer == .pnl || q.issuer == .grd) &&
  (q.limit.isNone || q.issuer == .grd)

/-- R14, R8: a placement of that shape with a lifetime that is unlimited or 1 to 6000 tenths. -/
def placementFits (q : Placement) : Bool :=
  placementShape q &&
  (match q.lifetime with
    | none => true
    | some n => decide (1 ≤ n) && decide (n ≤ 6000))

/-- R15: a raise concerns a PNL or an HDL slot. -/
def raiseFits (i : SlotNo) : Bool :=
  match slotRole i with
  | .rln _ => false
  | .pnl _ => true
  | .grd _ => false
  | .hdl _ => true
  | .pool => false

/-- A well-formed command. Every other operand is bounded by its type, or is a wire value that the part
itself checks and answers. -/
def WellFormed : Instr → Bool
  | .configWrite _ _ _ data => writeFits data
  | .lineSample c levels => sampleFits c levels
  | .internalPlacement q => placementFits q
  | .raise i => raiseFits i
  | .presence _ _ => true
  | .place _ _ _ => true
  | .amend _ _ _ => true
  | .renew _ _ _ _ => true
  | .retire _ _ _ => true
  | .withdraw _ _ _ => true
  | .lookup _ _ _ => true
  | .survey _ _ _ _ _ => true
  | .doorwayReport _ _ _ => true
  | .carReport _ _ => true
  | .clearObstruction _ _ _ => true
  | .clearFault _ _ _ => true
  | .panel _ _ _ _ => true
  | .collectNotices _ _ => true
  | .noticeMask _ _ _ => true
  | .configRead _ _ _ _ => true
  | .configStore _ _ => true
  | .startRun _ _ => true
  | .restart _ _ => true
  | .storeCompletion => true
  | .messageCompletion _ _ => true
  | .messageAbandoned _ => true
  | .answerSent _ => true
  | .supervisionIntervalExpiry _ => true
  | .supervisionGraceExpiry _ => true
  | .linkLost _ => true
  | .powerOn => true
  | .resetLineAsserted => true
  | .resetLineReleased => true
  | .channelRunEntry _ => true
  | .lineInputRunEntry => true
  | .lineAcceptance _ _ => true
  | .lineDroppedRetirement _ => true
  | .panelOffRetirement _ => true
  | .expiry _ => true
  | .countdownStart _ => true
  | .channelEntryAtTable _ _ => true
  | .provenEvent _ => true
  | .encoderStep _ _ => true
  | .illegalTransition _ => true
  | .clsAcceptedAtChannel _ _ => true
  | .lksAcceptedAtChannel _ _ => true
  | .bfltAcceptedAtChannel _ _ => true
  | .edgeAcceptedAtGuard _ _ => true
  | .frcAcceptedAtGuard _ _ => true
  | .stallIntervalExpiry _ => true
  | .stallGraceExpiry _ => true
  | .warningIntervalExpiry _ => true
  | .reversalPauseExpiry _ => true
  | .travelTimerExpiry _ => true
  | .unlockWaitExpiry _ => true
  | .lockWaitExpiry _ => true
  | .retryWaitExpiry _ => true
  | .plausibilityTimerExpiry _ => true
  | .flashPhaseExpiry _ => true
  | .provenFlagUpdate _ _ _ => true
  | .channelStateAtClu _ _ => true
  | .zspdAtClu _ => true
  | .provingTimerExpiry => true
  | .characterReceived _ _ => true
  | .supplyLoss => true

end Sys2Proof
end

