-- ==== Sys2Proof/Decode.lean ====
section
/-! DEFINITION. Commands spelled by bits: no row of spec/opcode_table.json gives its command bits (log 25). -/

namespace Sys2Proof

/-- No row of the opcode table has a pattern of bits ("fields" is empty in each), so no word spells a
command. The bytes of request messages are read by Machine/Operands.lean. -/
def decodeTableWord (_nbits _w : Nat) : Option Instr := none

end Sys2Proof
end

