-- ==== Sys2Proof/Machine/Params.lean ====
section
/-! DEFINITION. The configuration image of 445 bytes (R184), its parameters (Tables 10-1, 10-2, 11-7,
11-8), their ranges and defaults, and the cross-checks of R178. -/

namespace Sys2Proof.Machine

/-- The bytes of a configuration image, offsets 0 to 444 (R184). -/
structure Image where
  bytes : List Byte
deriving DecidableEq, Repr

/-- The number of bytes of the image (R184). -/
def imageLength : Nat := 445

/-- The byte at an offset. -/
def Image.byteAt (im : Image) (o : Nat) : Byte := im.bytes.getD o 0#8

/-- A one-byte field. -/
def Image.one (im : Image) (o : Nat) : Nat := (im.byteAt o).toNat

/-- A two-byte field, most significant byte first (R182). -/
def Image.two (im : Image) (o : Nat) : Nat := im.one o * 256 + im.one (o + 1)

/-- The bytes of an image from an offset (CONFIG_READ, R159). -/
def Image.slice (im : Image) (o n : Nat) : List Byte := (im.bytes.drop o).take n

/-- The image with bytes replaced from an offset (CONFIG_WRITE, R159). -/
def Image.patch (im : Image) (o : Nat) (data : List Byte) : Image :=
  { bytes := im.bytes.take o ++ data ++ im.bytes.drop (o + data.length) }

/-- REL_MODE (R36). -/
inductive RelMode where
  | lineOnly | lineAndLink
deriving DecidableEq, Repr

/-- PWM frequency: 4, 8, 16, 20 kHz (R52). -/
inductive PwmFreq where
  | khz4 | khz8 | khz16 | khz20
deriving DecidableEq, Repr

/-- Baud rates (R163). -/
inductive Baud where
  | b19200 | b38400 | b57600 | b115200
deriving DecidableEq, Repr

/-- Parity (R163). -/
inductive Parity where
  | none | even | odd
deriving DecidableEq, Repr

/-- The character settings of a port (R163). -/
structure LineSettings where
  baud : Baud
  parity : Parity
  twoStopBits : Bool
deriving DecidableEq, Repr

/-! Part-wide block, Table 11-7. Durations are held in units of their resolution (R184). -/

def Image.relMode (im : Image) : RelMode := if im.one 0 = 0 then .lineOnly else .lineAndLink
/-- WARN_TIME in tenths. -/
def Image.warnTime (im : Image) : Nat := im.one 1
/-- RECLOSE_WARN in tenths. -/
def Image.recloseWarn (im : Image) : Nat := im.one 2
/-- REVERSAL_PAUSE in 10 ms. -/
def Image.reversalPause (im : Image) : Nat := im.one 3
def Image.reopenMax (im : Image) : Nat := im.one 4
/-- REOPEN_MODE is PARTIAL. -/
def Image.reopenPartial (im : Image) : Bool := decide (im.one 5 ≠ 0)
def Image.reopenDist (im : Image) : Nat := im.two 6
/-- REOPEN_DWELL in tenths. -/
def Image.reopenDwell (im : Image) : Nat := im.one 8
/-- GUARD_LEVEL. -/
def Image.guardLevel (im : Image) : HoldLevel := Fin.ofNat 8 (im.one 9)
/-- BUTTON_LEVEL. -/
def Image.buttonLevel (im : Image) : HoldLevel := Fin.ofNat 8 (im.one 10)
/-- BUTTON_DWELL in tenths. -/
def Image.buttonDwell (im : Image) : Nat := im.two 11
/-- BUTTON_MEMORY in tenths, 0 is off. -/
def Image.buttonMemory (im : Image) : Nat := im.two 13
def Image.egressInhibitMoving (im : Image) : Bool := decide (im.one 15 ≠ 0)
/-- OPEN_RETRY_TIME in tenths. -/
def Image.openRetryTime (im : Image) : Nat := im.one 16
/-- PROVE_TIME in 10 ms. -/
def Image.proveTime (im : Image) : Nat := im.one 17

/-- Offset of a line class byte (Table 11-7). -/
def classOffset : LineClass → Nat
  | .release => 18
  | .panel => 19
  | .edge => 20
  | .switch => 21
  | .drive => 22

/-- Filter code of a class: bits 0 to 2 (Table 11-7). -/
def Image.filterCode (im : Image) (c : LineClass) : Nat := im.one (classOffset c) % 8

/-- Active level of a class: bit 7 set is high (Table 11-7). -/
def Image.activeLevel (im : Image) (c : LineClass) : Level :=
  if (im.byteAt (classOffset c)).getLsbD 7 then .high else .low

/-- The PWM frequency: codes 0 to 3 in the order of Table 10-2, not the number of kHz (DESIGN CHOICE, log 46). -/
def Image.pwm (im : Image) : PwmFreq :=
  match im.one 23 with
  | 0 => .khz4
  | 1 => .khz8
  | 2 => .khz16
  | _ => .khz20

def Image.autorun (im : Image) : Bool := decide (im.one 24 ≠ 0)

/-- Offset of a port's block (Table 11-7). -/
def portOffset : Port → Nat
  | .t => 25
  | .s => 31

/-- The character settings of a port. The stop bits hold codes 0 and 1 for one and two, in the order of Table 10-2, not
their number (DESIGN CHOICE, log 46). -/
def Image.settings (im : Image) (p : Port) : LineSettings :=
  { baud := match im.one (portOffset p) with
      | 0 => .b19200
      | 1 => .b38400
      | 2 => .b57600
      | _ => .b115200
    parity := match im.one (portOffset p + 1) with
      | 0 => .none
      | 1 => .even
      | _ => .odd
    twoStopBits := decide (im.one (portOffset p + 2) ≠ 0) }

def Image.nakOnError (im : Image) (p : Port) : Bool := decide (im.one (portOffset p + 3) ≠ 0)
/-- SUP_TIME in tenths, 0 is unsupervised. -/
def Image.supTime (im : Image) (p : Port) : Nat := im.one (portOffset p + 4)
/-- SUP_GRACE in tenths. -/
def Image.supGrace (im : Image) (p : Port) : Nat := im.one (portOffset p + 5)

/-! Doorway block d, Table 11-8. -/

/-- Offset of the block of a doorway: 37 + 51 d. -/
def doorOffset (d : Door) : Nat := 37 + 51 * d.val

def Image.fitted (im : Image) (d : Door) : Bool := decide (im.one (doorOffset d) ≠ 0)
def Image.plugPoint (im : Image) (d : Door) : Nat := im.one (doorOffset d + 1)
def Image.openEnd (im : Image) (d : Door) : Nat := im.two (doorOffset d + 2)
def Image.lockWindow (im : Image) (d : Door) : Nat := im.one (doorOffset d + 4)
def Image.edgeMute (im : Image) (d : Door) : Nat := im.one (doorOffset d + 5)
def Image.endWindow (im : Image) (d : Door) : Nat := im.one (doorOffset d + 6)
def Image.openLevel (im : Image) (d : Door) (b : Fin 8) : Byte := im.byteAt (doorOffset d + 7 + 4 * b.val)
def Image.closeLevel (im : Image) (d : Door) (b : Fin 8) : Byte := im.byteAt (doorOffset d + 8 + 4 * b.val)
def Image.openForce (im : Image) (d : Door) (b : Fin 8) : Byte := im.byteAt (doorOffset d + 9 + 4 * b.val)
def Image.closeForce (im : Image) (d : Door) (b : Fin 8) : Byte := im.byteAt (doorOffset d + 10 + 4 * b.val)
def Image.refLevel (im : Image) (d : Door) : Byte := im.byteAt (doorOffset d + 39)
def Image.reliefLevel (im : Image) (d : Door) : Byte := im.byteAt (doorOffset d + 40)
def Image.reliefSteps (im : Image) (d : Door) : Nat := im.one (doorOffset d + 41)
def Image.pressLevel (im : Image) (d : Door) : Byte := im.byteAt (doorOffset d + 42)
def Image.boost (im : Image) (d : Door) : Byte := im.byteAt (doorOffset d + 43)
/-- STALL_INTERVAL in 10 ms. -/
def Image.stallInterval (im : Image) (d : Door) : Nat := im.one (doorOffset d + 44)
/-- STALL_GRACE in 10 ms. -/
def Image.stallGrace (im : Image) (d : Door) : Nat := im.one (doorOffset d + 45)
def Image.blankSteps (im : Image) (d : Door) : Nat := im.one (doorOffset d + 46)
/-- TRAVEL_OPEN in tenths. -/
def Image.travelOpen (im : Image) (d : Door) : Nat := im.one (doorOffset d + 47)
/-- TRAVEL_CLOSE in tenths. -/
def Image.travelClose (im : Image) (d : Door) : Nat := im.one (doorOffset d + 48)
/-- UNLOCK_TIME in 10 ms. -/
def Image.unlockTime (im : Image) (d : Door) : Nat := im.one (doorOffset d + 49)
/-- LOCK_TIME in 10 ms. -/
def Image.lockTime (im : Image) (d : Door) : Nat := im.one (doorOffset d + 50)

/-! Ranges and defaults of Tables 10-1 and 10-2. -/

/-- The values a field may hold. -/
inductive FieldRange where
  | between (lo hi : Nat)
  /-- 0, or a range (BUTTON_MEMORY, SUP_TIME). -/
  | zeroOr (lo hi : Nat)
  /-- A line class byte: bits 0 to 2 and bit 7 (Table 11-7); bits 3 to 6 have no meaning and must be 0 (log 21). -/
  | lineClass
deriving DecidableEq, Repr

def FieldRange.admits : FieldRange → Nat → Bool
  | .between lo hi, v => decide (lo ≤ v) && decide (v ≤ hi)
  | .zeroOr lo hi, v => decide (v = 0) || (decide (lo ≤ v) && decide (v ≤ hi))
  | .lineClass, v => decide (v % 128 < 8)

/-- One field of the image: its offset, which is its field index (R184), its width in bytes, its range
and its default. -/
structure Field where
  offset : Nat
  width : Nat
  range : FieldRange
  default : Nat
deriving DecidableEq, Repr

/-- Table 11-7 with the ranges and defaults of Table 10-2. PWM frequency, offset 23, holds codes 0 to 3 (DESIGN CHOICE,
log 46). -/
def partFields : List Field :=
  [ ⟨0, 1, .between 0 1, 1⟩, ⟨1, 1, .between 5 50, 20⟩, ⟨2, 1, .between 2 30, 10⟩,
    ⟨3, 1, .between 5 50, 15⟩, ⟨4, 1, .between 1 7, 3⟩, ⟨5, 1, .between 0 1, 0⟩,
    ⟨6, 2, .between 64 512, 256⟩, ⟨8, 1, .between 10 200, 30⟩, ⟨9, 1, .between 1 7, 5⟩,
    ⟨10, 1, .between 1 7, 2⟩, ⟨11, 2, .between 10 600, 50⟩, ⟨13, 2, .zeroOr 10 6000, 1200⟩,
    ⟨15, 1, .between 0 1, 1⟩, ⟨16, 1, .between 5 50, 10⟩, ⟨17, 1, .between 5 100, 20⟩,
    ⟨18, 1, .lineClass, 0x83⟩, ⟨19, 1, .lineClass, 0x83⟩, ⟨20, 1, .lineClass, 0x83⟩,
    ⟨21, 1, .lineClass, 0x83⟩, ⟨22, 1, .lineClass, 0x83⟩, ⟨23, 1, .between 0 3, 2⟩,
    ⟨24, 1, .between 0 1, 0⟩ ]

/-- The block of a port (Table 11-7): baud, parity, stop bits, NAK_ON_ERROR, SUP_TIME, SUP_GRACE. Stop bits hold codes 0
and 1 (DESIGN CHOICE, log 46). -/
def portFields (p : Port) (supTime : Nat) : List Field :=
  [ ⟨portOffset p, 1, .between 0 3, 2⟩, ⟨portOffset p + 1, 1, .between 0 2, 1⟩,
    ⟨portOffset p + 2, 1, .between 0 1, 0⟩, ⟨portOffset p + 3, 1, .between 0 1, 1⟩,
    ⟨portOffset p + 4, 1, .zeroOr 2 255, supTime⟩, ⟨portOffset p + 5, 1, .between 1 255, 5⟩ ]

/-- Band b of doorway d: open level, close level, open force, close force. Each byte is a field of its
own (log 21). -/
def bandFields (d : Door) (b : Nat) : List Field :=
  [ ⟨doorOffset d + 7 + 4 * b, 1, .between 0 255, 160⟩,
    ⟨doorOffset d + 8 + 4 * b, 1, .between 0 255, if b = 0 then 80 else 120⟩,
    ⟨doorOffset d + 9 + 4 * b, 1, .between 0 63, 40⟩,
    ⟨doorOffset d + 10 + 4 * b, 1, .between 0 63, 30⟩ ]

/-- Table 11-8 with the ranges and defaults of Table 10-1. -/
def doorFields (d : Door) : List Field :=
  [ ⟨doorOffset d, 1, .between 0 1, 1⟩, ⟨doorOffset d + 1, 1, .between 40 200, 96⟩,
    ⟨doorOffset d + 2, 2, .between 600 1020, 960⟩, ⟨doorOffset d + 4, 1, .between 2 16, 6⟩,
    ⟨doorOffset d + 5, 1, .between 0 64, 24⟩, ⟨doorOffset d + 6, 1, .between 4 32, 12⟩ ] ++
  ([0, 1, 2, 3, 4, 5, 6, 7].map (bandFields d)).flatten ++
  [ ⟨doorOffset d + 39, 1, .between 16 128, 48⟩, ⟨doorOffset d + 40, 1, .between 32 255, 140⟩,
    ⟨doorOffset d + 41, 1, .between 8 128, 40⟩, ⟨doorOffset d + 42, 1, .between 32 255, 100⟩,
    ⟨doorOffset d + 43, 1, .between 0 64, 24⟩, ⟨doorOffset d + 44, 1, .between 2 100, 15⟩,
    ⟨doorOffset d + 45, 1, .between 2 100, 20⟩, ⟨doorOffset d + 46, 1, .between 0 32, 8⟩,
    ⟨doorOffset d + 47, 1, .between 10 150, 60⟩, ⟨doorOffset d + 48, 1, .between 10 150, 60⟩,
    ⟨doorOffset d + 49, 1, .between 5 100, 30⟩, ⟨doorOffset d + 50, 1, .between 5 100, 40⟩ ]

/-- Every field in ascending field index (R184). -/
def fields : List Field :=
  partFields ++ portFields .t 10 ++ portFields .s 0 ++ (doors.map doorFields).flatten

/-- The bytes of a field's value, most significant first. -/
def fieldBytes (width v : Nat) : List Byte :=
  if width = 2 then [BitVec.ofNat 8 (v / 256), BitVec.ofNat 8 v] else [BitVec.ofNat 8 v]

/-- The image of every default (R176). -/
def Image.defaults : Image := { bytes := (fields.map (fun f => fieldBytes f.width f.default)).flatten }

/-- The value of a field in an image. -/
def Field.value (f : Field) (im : Image) : Nat := if f.width = 2 then im.two f.offset else im.one f.offset

/-- The field holds a value of its range (R159). -/
def Field.ok (f : Field) (im : Image) : Bool := f.range.admits (f.value im)

/-- The field has a byte among the n bytes from offset o (R159: a field partly written included). -/
def Field.touched (f : Field) (o n : Nat) : Bool := decide (f.offset < o + n) && decide (o < f.offset + f.width)

/-- R159: the first field, in ascending index, that a write of n bytes at o touches and leaves out of range. -/
def Image.badField (im : Image) (o n : Nat) : Option Nat :=
  (fields.find? (fun f => f.touched o n && !f.ok im)).map Field.offset

/-- Every field of the image is in its range. -/
def Image.inRange (im : Image) : Bool := fields.all (fun f => f.ok im)

/-- R178, first check, on one fitted doorway: the failing field. -/
def Image.crossCheckDoor (im : Image) (d : Door) : Option Nat :=
  if im.fitted d then
    if im.openEnd d < im.plugPoint d + 16 then some (doorOffset d + 2)
    else if im.plugPoint d ≤ im.edgeMute d then some (doorOffset d + 5)
    else if im.plugPoint d ≤ im.lockWindow d then some (doorOffset d + 4)
    else none
  else none

/-- R178: the field index of the first cross-check that fails, `none` when all pass. -/
def Image.crossCheck (im : Image) : Option Nat :=
  match doors.findSome? im.crossCheckDoor with
  | some i => some i
  | none => if doors.any im.fitted then none else some (doorOffset 0)

end Sys2Proof.Machine
end

