-- ==== Sys2Proof/Machine/State.lean ====
section
/-! DEFINITION. The state of the MZ-84 as plain data, block by block (00_scope Table 0-1), and the state
after a power-on start. -/

namespace Sys2Proof.Machine

/-! ### Hold Table (Chapter 1) -/

/-- The nine retirement reasons (Table 1-6). -/
inductive Reason where
  | requested | expired | fulfilled | lineDropped | panelOff | linkLost | standing | faulted | egress
deriving DecidableEq, Repr

/-- The countdown of a hold (R8). -/
inductive Countdown where
  | running | waiting
deriving DecidableEq, Repr

/-- A hold (Table 1-3). `lifetime`: `none` is unlimited, else the tenths it was last given (R8).
`limit`: `none` is absent. `rwl` is retire-when-locked. -/
structure Hold where
  handle : Handle
  issuer : Issuer
  kind : HoldKind
  scope : DoorSet
  level : HoldLevel
  lifetime : Option Nat
  countdown : Countdown
  limit : Option Nat
  rwl : Bool
  tag : Half
deriving DecidableEq, Repr

/-- A slot (R1). `mark` is the unreported mark, kept with the retired hold's issuer (R27). -/
structure Slot where
  hold : Option Hold
  generation : Byte
  lastReason : Option Reason
  mark : Option Issuer
deriving DecidableEq, Repr

/-- A slot after a start (R30). -/
def Slot.start : Slot := { hold := none, generation := 0#8, lastReason := none, mark := none }

/-! ### Demand Resolver (Chapter 2) -/

/-- The four demands OPEN, CLOSE, ISOLATED, EGRESS (Table 2-1). -/
inductive DemandKind where
  | opens | closes | isolated | egress
deriving DecidableEq, Repr

/-- A demand record (Table 2-1). -/
structure Demand where
  kind : DemandKind
  gov : Option Handle
  target : Option Nat
  released : Bool
  blocked : Bool
deriving DecidableEq, Repr

/-- The resting closed record (R32). -/
def Demand.resting : Demand :=
  { kind := .closes, gov := none, target := none, released := false, blocked := false }

/-! ### Doorway channels (Chapters 3, 6, 7) -/

/-- The drive modes with their level (R52). -/
inductive Drive where
  | free
  | brake
  | driveOpen (level : Byte)
  | driveClose (level : Byte)
deriving DecidableEq, Repr

/-- The warning lamp (R53): a flashing lamp has an on phase and an off phase. -/
inductive Lamp where
  | off
  | on
  | flashing (lit : Bool)
deriving DecidableEq, Repr

/-- The motions that the travel timer times (R69, R133). -/
inductive Motion where
  | opening | closing | referencing
deriving DecidableEq, Repr

/-- The unlock stages (R117). -/
inductive UnlockStage where
  | first | pause | second
deriving DecidableEq, Repr

/-- The detail of a SWITCH cause (R134, R135). -/
inductive SwitchDetail where
  | lockedWithoutClosed | closedInSlide
deriving DecidableEq, Repr

/-- The eight fault causes with their detail (Table 7-1). -/
inductive FaultCause where
  | encoder
  | range
  | bridge
  | unlock
  | lock
  | lockLost (sw : Switch)
  | switch (detail : SwitchDetail)
  | travel (m : Motion)
deriving DecidableEq, Repr

/-- The fault record (Table 7-2). -/
structure FaultRecord where
  first : FaultCause
  firstPosition : Option Position
  firstState : ChState
  later : Option FaultCause
deriving DecidableEq, Repr

/-- One doorway channel. A timer is `none` while stopped, and `some n` while it runs for the n units of
its resolution for which it was last started (log 9): `warn` and `retryWait` in tenths, `pause`,
`lockWait`, `plaus` and the unlock waits in 10 ms, `travel` in tenths with its motion. `encA` and `encB`
are the encoder lines ENAd and ENBd, the channel's place in the quadrature cycle (R48). -/
structure Channel where
  state : ChState
  position : Position
  referenced : Bool
  band : Fin 8
  drive : Drive
  threshold : Byte
  solenoid : Bool
  lamp : Lamp
  warn : Option Nat
  pause : Option Nat
  travel : Option (Motion × Nat)
  unlock : Option (UnlockStage × Nat)
  lockWait : Option Nat
  retryWait : Option Nat
  plaus : Option Nat
  fault : Option FaultRecord
  encA : Level
  encB : Level
deriving DecidableEq, Repr

/-- A channel after a start (R77), the encoder lines as they stand. The force threshold is a DESIGN
CHOICE (log 4). -/
def Channel.start (fitted : Bool) (a b : Level) : Channel :=
  { state := if fitted then .unreferenced else .unfitted
    position := 0, referenced := false, band := 0, drive := .free, threshold := 0#8
    solenoid := false, lamp := .off, warn := none, pause := none, travel := none, unlock := none
    lockWait := none, retryWait := none, plaus := none, fault := none, encA := a, encB := b }

/-! ### Obstruction Guard (Chapter 4) -/

/-- The causes of a closing detection (Table 4-1). -/
inductive ObsCause where
  | edge | force | stall
deriving DecidableEq, Repr

/-- The stall stages (R78). -/
inductive StallStage where
  | idle | normal | warn | single
deriving DecidableEq, Repr

/-- One guard section (R78, Table 4-1). `stallTimer` is the stall interval in NORMAL and SINGLE and the
stall grace in WARN, in 10 ms. -/
structure Guard where
  reopenCount : Nat
  lastCause : Option ObsCause
  capturedPos : Option Position
  capturedBand : Option (Fin 8)
  openRetry : Fin 4
  openExhausted : Bool
  stage : StallStage
  stallTimer : Option Nat
  blank : Nat
  reliefSteps : Nat
deriving DecidableEq, Repr

/-- A guard section after a start (R79). -/
def Guard.start : Guard :=
  { reopenCount := 0, lastCause := none, capturedPos := none, capturedBand := none, openRetry := 0
    openExhausted := false, stage := .idle, stallTimer := none, blank := 0, reliefSteps := 0 }

/-! ### Line Input Unit (Chapter 5) -/

/-- One filter (R102) with the level at its pin. -/
structure Filter where
  pin : Level
  level : Level
  count : Fin 3
deriving DecidableEq, Repr

/-- The filter after a start: the filtered level is that of the first sample (R115). -/
def Filter.start (pin : Level) : Filter := { pin := pin, level := pin, count := 0 }

/-- The sixty filters (Table 5-1). -/
structure LineBank where
  relL : Filter
  relR : Filter
  zspd : Filter
  mkey : Filter
  btn : Vector Filter 8
  hdl : Vector Filter 8
  edge : Vector Filter 8
  cls : Vector Filter 8
  lks : Vector Filter 8
  frc : Vector Filter 8
  bflt : Vector Filter 8
deriving DecidableEq, Repr

/-- Every filter after a start (R115). The first sample after the start is taken within the start, from the
level last seen at the pin, so the next LINE_SAMPLE is a later one (DESIGN CHOICE, log 37). -/
def LineBank.start (b : LineBank) : LineBank :=
  { relL := .start b.relL.pin, relR := .start b.relR.pin, zspd := .start b.zspd.pin
    mkey := .start b.mkey.pin
    btn := b.btn.map (fun f => .start f.pin), hdl := b.hdl.map (fun f => .start f.pin)
    edge := b.edge.map (fun f => .start f.pin), cls := b.cls.map (fun f => .start f.pin)
    lks := b.lks.map (fun f => .start f.pin), frc := b.frc.map (fun f => .start f.pin)
    bflt := b.bflt.map (fun f => .start f.pin) }

/-- Every line low at its pin (log 1). -/
def LineBank.allLow : LineBank :=
  { relL := .start .low, relR := .start .low, zspd := .start .low, mkey := .start .low
    btn := .replicate 8 (.start .low), hdl := .replicate 8 (.start .low)
    edge := .replicate 8 (.start .low), cls := .replicate 8 (.start .low)
    lks := .replicate 8 (.start .low), frc := .replicate 8 (.start .low)
    bflt := .replicate 8 (.start .low) }

/-! ### Car Loop Unit (Chapter 6) -/

/-- The unit's copies and the proven flag of one doorway (R121). -/
structure CluDoor where
  cls : Level
  lks : Level
  chState : ChState
  proven : Bool
deriving DecidableEq, Repr

/-- The proving stages (R124). -/
inductive ProvingStage where
  | unproven | proving | proven
deriving DecidableEq, Repr

/-- The Car Loop Unit. `timer` is the proving timer in 10 ms. -/
structure CarLoop where
  doors : Vector CluDoor 8
  zspd : Level
  stage : ProvingStage
  timer : Option Nat
  loop : Bool
  movingUnproven : Bool
deriving DecidableEq, Repr

/-! ### Link ports and Notice Unit (Chapter 9) -/

/-- A message being assembled (R164): LEN once received, the body so far, the running CRC and the
damage mark. -/
structure Assembly where
  len : Option Nat
  body : List Byte
  crc : Byte
  damage : Bool
deriving DecidableEq, Repr

/-- A complete message taken by intake (R166): `error` marks an error message (R168). -/
structure Message where
  error : Bool
  kind : Byte
  seq : Byte
  params : List Byte
deriving DecidableEq, Repr

/-- An answer as it was formed (R169, Table 11-1): the body of the answer message. -/
structure Answer where
  kind : Byte
  seq : Byte
  result : Byte
  flags : Byte
  payload : List Byte
deriving DecidableEq, Repr

/-- The answer slot (R166). RESERVED keeps the sequence of the owed CONFIG_STORE answer; SENDING keeps
the answer, and whether a RESTART start follows its last character (R162). -/
inductive AnswerSlot where
  | free
  | reserved (seq : Byte)
  | sending (a : Answer) (restart : Bool)
deriving DecidableEq, Repr

/-- The supervision states (R170). -/
inductive Supervision where
  | unsupervised | active | silent | lost
deriving DecidableEq, Repr

/-- One link port with its part of the Notice Unit (R163, R166, R170, R172). `rx` is `none` while hunting.
`awaitHigh`: a break has been received, and the receiver waits for the line to return high (R163, log 36).
`supTimer` is in tenths. -/
structure PortState where
  rx : Option Assembly
  awaitHigh : Bool
  slot : AnswerSlot
  buffer : Option Message
  overrun : Bool
  sup : Supervision
  supTimer : Option Nat
  line : LineSettings
  kinds : KindSet
  standing : DoorSet
  fault : DoorSet
  egress : DoorSet
  mask : KindSet
  attention : Bool
deriving DecidableEq, Repr

/-- A port after a start (R175): START is pending (bit 0 of the kind set) and unmasked. -/
def PortState.start (line : LineSettings) : PortState :=
  { rx := none, awaitHigh := false, slot := .free, buffer := none, overrun := false
    sup := .unsupervised, supTimer := none, line := line, kinds := 1#8, standing := 0#8, fault := 0#8, egress := 0#8
    mask := 0#8, attention := true }

/-! ### Configuration and Mode Control (Chapter 10) -/

/-- The two modes (10.3). -/
inductive Mode where
  | configure | run
deriving DecidableEq, Repr

/-- The reset causes (R180). -/
inductive ResetCause where
  | powerOn | resetLine | restart
deriving DecidableEq, Repr

/-- The configuration source (R176). -/
inductive CfgSource where
  | stored | defaults
deriving DecidableEq, Repr

/-- The nonvolatile image with its CRC character (R176). -/
structure StoredImage where
  image : Image
  crc : Byte
deriving DecidableEq, Repr

/-! ### The whole part -/

/-- The state of the part. `pending` is the queue of commands that wait; `sent` holds the events that a
block has sent and the receiving block has not yet taken (log 6); `free` numbers the next free value
(log 10). `epochOld` is what the epoch cell held before the last start, while the part has taken no event
since: a reset or a loss of supply that comes next may have cut that start short (R180, R181; log 11). -/
structure State where
  pending : List Instr
  sent : List Instr
  free : Nat
  supply : Bool
  resetLine : Bool
  mode : Mode
  resetCause : ResetCause
  epochCell : Byte
  epochOld : Option Byte
  cfg : Image
  source : CfgSource
  stored : StoredImage
  store : Option StoredImage
  pwm : PwmFreq
  epoch : Byte
  slots : Vector Slot 64
  demands : Vector Demand 8
  chans : Vector Channel 8
  chime0 : Bool
  chime1 : Bool
  guards : Vector Guard 8
  lines : LineBank
  panelLeft : Bool
  panelRight : Bool
  clu : CarLoop
  portT : PortState
  portS : PortState
deriving DecidableEq, Repr

/-- No fault: nothing stops the part (INVENTORY, Faults). A refused request is an answer, and a doorway
fault is a state of its channel; so this type has no constructor (log 35). -/
inductive Fault where
deriving DecidableEq, Repr

/-- Why the model has no answer to a command. -/
inductive Refusal where
  /-- Raised by an arm of Machine/Dispatch.lean whose command has no meaning yet. Safe: nothing is
  claimed of what follows. No arm raises it. -/
  | notModelled (mnemonic : String)
deriving DecidableEq, Repr

/-- The Car Loop Unit after a start (R128): its copies take the filtered levels and the start states. -/
def CarLoop.start (lines : LineBank) (chans : Vector Channel 8) : CarLoop :=
  { doors := .ofFn (fun d => { cls := lines.cls[d].level, lks := lines.lks[d].level
                               chState := chans[d].state, proven := false })
    zspd := lines.zspd.level, stage := .unproven, timer := none, loop := false
    movingUnproven := false }

/-- The part right after a power-on start: R30, R32, R77, R79, R115, R128, R175, R181, with a stored image
that was never written (log 3), the epoch cell at 0 (log 2) and every pin low (log 1). -/
def State.reset : State :=
  { pending := [], sent := [], free := 0, supply := true, resetLine := false
    mode := .configure, resetCause := .powerOn, epochCell := 0#8, epochOld := some 0xFF#8
    cfg := Image.defaults, source := .defaults
    stored := { image := { bytes := List.replicate imageLength 0xFF#8 }, crc := 0xFF#8 }
    store := none, pwm := .khz16, epoch := 0#8
    slots := .replicate 64 .start
    demands := .replicate 8 .resting
    chans := .replicate 8 (.start true .low .low)
    chime0 := false, chime1 := false
    guards := .replicate 8 .start
    lines := .allLow, panelLeft := false, panelRight := false
    clu := { doors := .replicate 8
               { cls := .low, lks := .low, chState := .unreferenced, proven := false }
             zspd := .low, stage := .unproven, timer := none, loop := false
             movingUnproven := false }
    portT := .start { baud := .b57600, parity := .even, twoStopBits := false }
    portS := .start { baud := .b57600, parity := .even, twoStopBits := false } }

end Sys2Proof.Machine
end

