-- ==== Sys2Proof/Machine/Ops.lean ====
section
/-! DEFINITION. The named operations over the state: accessors, lines, notices, the events sent between
blocks, the Hold Table's slots, and demand resolution. -/

namespace Sys2Proof.Machine

/-! ### Accessors -/

def State.chan (s : State) (d : Door) : Channel := s.chans[d]
def State.setChan (s : State) (d : Door) (c : Channel) : State := { s with chans := s.chans.set d c }
def State.modChan (s : State) (d : Door) (f : Channel → Channel) : State := s.setChan d (f (s.chan d))

def State.guard (s : State) (d : Door) : Guard := s.guards[d]
def State.setGuard (s : State) (d : Door) (g : Guard) : State := { s with guards := s.guards.set d g }
def State.modGuard (s : State) (d : Door) (f : Guard → Guard) : State := s.setGuard d (f (s.guard d))

def State.demand (s : State) (d : Door) : Demand := s.demands[d]
def State.setDemand (s : State) (d : Door) (r : Demand) : State := { s with demands := s.demands.set d r }

def State.slot (s : State) (i : SlotNo) : Slot := s.slots[i]
def State.setSlot (s : State) (i : SlotNo) (x : Slot) : State := { s with slots := s.slots.set i x }
/-- The hold in a slot, `none` while the slot is free (R1). -/
def State.hold (s : State) (i : SlotNo) : Option Hold := (s.slot i).hold
/-- The hold of an occupied slot replaced in place. -/
def State.setHold (s : State) (i : SlotNo) (h : Hold) : State :=
  s.setSlot i { s.slot i with hold := some h }

def State.cluDoor (s : State) (d : Door) : CluDoor := s.clu.doors[d]
def State.setCluDoor (s : State) (d : Door) (x : CluDoor) : State :=
  { s with clu := { s.clu with doors := s.clu.doors.set d x } }

def State.port (s : State) : Port → PortState
  | .t => s.portT
  | .s => s.portS
def State.setPort (s : State) (p : Port) (x : PortState) : State :=
  match p with
  | .t => { s with portT := x }
  | .s => { s with portS := x }
def State.modPort (s : State) (p : Port) (f : PortState → PortState) : State := s.setPort p (f (s.port p))

/-- The part runs while it has supply and the reset line is not asserted (R180). -/
def State.running (s : State) : Bool := s.supply && !s.resetLine

def State.fitted (s : State) (d : Door) : Bool := s.cfg.fitted d

/-! ### Lines (R102, R104) -/

def LineBank.get (b : LineBank) : Line → Filter
  | .relL => b.relL
  | .relR => b.relR
  | .zspd => b.zspd
  | .mkey => b.mkey
  | .btn d => b.btn[d]
  | .hdl d => b.hdl[d]
  | .edge d => b.edge[d]
  | .cls d => b.cls[d]
  | .lks d => b.lks[d]
  | .frc d => b.frc[d]
  | .bflt d => b.bflt[d]

def LineBank.put (b : LineBank) (l : Line) (f : Filter) : LineBank :=
  match l with
  | .relL => { b with relL := f }
  | .relR => { b with relR := f }
  | .zspd => { b with zspd := f }
  | .mkey => { b with mkey := f }
  | .btn d => { b with btn := b.btn.set d f }
  | .hdl d => { b with hdl := b.hdl.set d f }
  | .edge d => { b with edge := b.edge.set d f }
  | .cls d => { b with cls := b.cls.set d f }
  | .lks d => { b with lks := b.lks.set d f }
  | .frc d => { b with frc := b.frc.set d f }
  | .bflt d => { b with bflt := b.bflt.set d f }

def State.filter (s : State) (l : Line) : Filter := s.lines.get l
def State.setFilter (s : State) (l : Line) (f : Filter) : State := { s with lines := s.lines.put l f }

/-- R104: a level of a class is the asserted one when it equals the class's active level. -/
def State.isActive (s : State) (c : LineClass) (lv : Level) : Bool := lv == s.cfg.activeLevel c

/-- R104: a line is asserted while its filtered level equals the active level of its class. -/
def State.asserted (s : State) (l : Line) : Bool := s.isActive (classOf l) (s.filter l).level

/-- CLSd and LKSd both made, as the Line Input Unit holds them (log 14). -/
def State.bothMade (s : State) (d : Door) : Bool := s.asserted (.cls d) && s.asserted (.lks d)

/-! ### Issuers (R10, R144) -/

/-- R114, R144: the issuer of a request executed now on a port. -/
def State.issuerOf (s : State) : Port → Issuer
  | .t => .trn
  | .s => if s.asserted .mkey then .mnt else .atd

/-- The port of a link issuer's holds (R18 item 5). Internal issuers have none; they never reach it. -/
def issuerPort : Issuer → Port
  | .trn => .t
  | .atd => .s
  | .mnt => .s
  | .rln => .s
  | .pnl => .s
  | .grd => .s
  | .hdl => .s

/-- Table 1-4: the kinds a link issuer may place. -/
def mayPlace : Issuer → HoldKind → Bool
  | .trn, k => k == .release || k == .opens || k == .closes
  | .atd, k => k == .opens || k == .closes || k == .isolate
  | .mnt, k => k == .opens || k == .closes || k == .isolate
  | .rln, k => k == .release
  | .pnl, k => k == .opens
  | .grd, k => k == .opens
  | .hdl, k => k == .egress

/-- Table 1-4: the level cap. -/
def levelCap : Issuer → Nat
  | .trn => 4
  | .atd => 6
  | .mnt => 7
  | .rln => 7
  | .pnl => 7
  | .grd => 7
  | .hdl => 7

/-- Table 1-4: the quota. -/
def quotaOf : Issuer → Nat
  | .trn => 24
  | .atd => 12
  | .mnt => 8
  | .rln => 2
  | .pnl => 8
  | .grd => 8
  | .hdl => 8

/-- Table 1-5: may an issuer of a request (second argument) retire a hold of an issuer (first)? An HDL
hold has the further condition of the handle line (R12). -/
def mayRetire : Issuer → Issuer → Bool
  | .trn, _ => true
  | .atd, r => r == .atd || r == .mnt
  | .mnt, r => r == .mnt
  | .rln, _ => false
  | .pnl, _ => true
  | .grd, r => r == .atd || r == .mnt
  | .hdl, r => r == .atd || r == .mnt

/-! ### Notices (R172) -/

/-- The eight notice kinds (Table 9-2). -/
inductive NoticeKind where
  | start | retired | standing | fault | egress | loop | lines | peer
deriving DecidableEq, Repr

/-- The bit of a kind in a kind set (Table 11-2). -/
def NoticeKind.bit : NoticeKind → KindSet
  | .start => 0x01#8
  | .retired => 0x02#8
  | .standing => 0x04#8
  | .fault => 0x08#8
  | .egress => 0x10#8
  | .loop => 0x20#8
  | .lines => 0x40#8
  | .peer => 0x80#8

/-- A kind made pending on a port (R172). -/
def PortState.raise (x : PortState) (k : NoticeKind) : PortState := { x with kinds := x.kinds ||| k.bit }

/-- A STANDING, FAULT or EGRESS notice with its doorway (R172). The other kinds name no doorway. -/
def PortState.raiseDoor (x : PortState) (k : NoticeKind) (d : Door) : PortState :=
  let y := x.raise k
  match k with
  | .standing => { y with standing := y.standing ||| single d }
  | .fault => { y with fault := y.fault ||| single d }
  | .egress => { y with egress := y.egress ||| single d }
  | .start => y
  | .retired => y
  | .loop => y
  | .lines => y
  | .peer => y

/-- A notice raised on one port. -/
def State.raiseOn (s : State) (p : Port) (k : NoticeKind) : State := s.modPort p (·.raise k)

/-- A notice raised on both ports. -/
def State.raiseBoth (s : State) (k : NoticeKind) : State := (s.raiseOn .t k).raiseOn .s k

/-- A notice with doorway d raised on both ports. -/
def State.raiseDoor (s : State) (k : NoticeKind) (d : Door) : State :=
  (s.modPort .t (·.raiseDoor k d)).modPort .s (·.raiseDoor k d)

/-- R173: the attention line is asserted while a kind outside the mask is pending. -/
def PortState.wantsAttention (x : PortState) : Bool := (x.kinds &&& ~~~x.mask) != 0#8

/-! ### Events sent between blocks (log 6) -/

/-- The way an event takes from the block that sends it to the block that takes it. Events of one way
are taken in the order in which they were sent. -/
inductive Route where
  /-- Line Input Unit to Hold Table (R105: in the order of the acceptances). -/
  | linesToTable
  /-- An accepted level of one line to its channel or guard section. -/
  | lineToDoor (l : Line)
  /-- An accepted level of one line to the Car Loop Unit. -/
  | lineToClu (l : Line)
  /-- Channel d to the Hold Table (R72). -/
  | channelToTable (d : Door)
  /-- Guard section d to the Hold Table: GRD placements (R87). -/
  | guardToTable (d : Door)
  /-- Channel d to the Car Loop Unit (R72). -/
  | channelToClu (d : Door)
  /-- Car Loop Unit to the Hold Table: proven events of doorway d (R122). -/
  | cluToTable (d : Door)
  /-- A port to the Hold Table: its loss (R170). -/
  | portToTable (p : Port)
  /-- The entry into RUN, to channel d (R179). -/
  | runToChannel (d : Door)
  /-- The entry into RUN, to the Line Input Unit (R179). -/
  | runToLines
deriving DecidableEq, Repr

/-- The route of an event that blocks send each other, `none` for a command from outside. -/
def route : Instr → Option Route
  | .internalPlacement q =>
    match slotRole q.slot with
    | .grd d => some (.guardToTable d)
    | .rln _ => some .linesToTable
    | .pnl _ => some .linesToTable
    | .hdl _ => some .linesToTable
    | .pool => some .linesToTable
  | .raise _ => some .linesToTable
  | .lineDroppedRetirement _ => some .linesToTable
  | .panelOffRetirement _ => some .linesToTable
  | .clsAcceptedAtChannel d _ => some (.lineToDoor (.cls d))
  | .lksAcceptedAtChannel d _ => some (.lineToDoor (.lks d))
  | .bfltAcceptedAtChannel d _ => some (.lineToDoor (.bflt d))
  | .edgeAcceptedAtGuard d _ => some (.lineToDoor (.edge d))
  | .frcAcceptedAtGuard d _ => some (.lineToDoor (.frc d))
  | .provenFlagUpdate d .closed _ => some (.lineToClu (.cls d))
  | .provenFlagUpdate d .locked _ => some (.lineToClu (.lks d))
  | .zspdAtClu _ => some (.lineToClu .zspd)
  | .countdownStart d => some (.channelToTable d)
  | .channelEntryAtTable d _ => some (.channelToTable d)
  | .channelStateAtClu d _ => some (.channelToClu d)
  | .provenEvent d => some (.cluToTable d)
  | .linkLost p => some (.portToTable p)
  | .channelRunEntry d => some (.runToChannel d)
  | .lineInputRunEntry => some .runToLines
  | .presence _ _ => none
  | .place _ _ _ => none
  | .amend _ _ _ => none
  | .renew _ _ _ _ => none
  | .retire _ _ _ => none
  | .withdraw _ _ _ => none
  | .lookup _ _ _ => none
  | .survey _ _ _ _ _ => none
  | .doorwayReport _ _ _ => none
  | .carReport _ _ => none
  | .clearObstruction _ _ _ => none
  | .clearFault _ _ _ => none
  | .panel _ _ _ _ => none
  | .collectNotices _ _ => none
  | .noticeMask _ _ _ => none
  | .configRead _ _ _ _ => none
  | .configWrite _ _ _ _ => none
  | .configStore _ _ => none
  | .startRun _ _ => none
  | .restart _ _ => none
  | .storeCompletion => none
  | .messageCompletion _ _ => none
  | .messageAbandoned _ => none
  | .answerSent _ => none
  | .supervisionIntervalExpiry _ => none
  | .supervisionGraceExpiry _ => none
  | .powerOn => none
  | .resetLineAsserted => none
  | .resetLineReleased => none
  | .lineAcceptance _ _ => none
  | .expiry _ => none
  | .encoderStep _ _ => none
  | .illegalTransition _ => none
  | .stallIntervalExpiry _ => none
  | .stallGraceExpiry _ => none
  | .warningIntervalExpiry _ => none
  | .reversalPauseExpiry _ => none
  | .travelTimerExpiry _ => none
  | .unlockWaitExpiry _ => none
  | .lockWaitExpiry _ => none
  | .retryWaitExpiry _ => none
  | .plausibilityTimerExpiry _ => none
  | .flashPhaseExpiry _ => none
  | .provingTimerExpiry => none
  | .characterReceived _ _ => none
  | .lineSample _ _ => none
  | .supplyLoss => none

/-- An event sent by one block to another. -/
def State.send (s : State) (e : Instr) : State := { s with sent := s.sent ++ [e] }

/-- The list without its first occurrence of `c`, if `c` is the first of its route. -/
def takeFirst (c : Instr) : List Instr → Option (List Instr)
  | [] => none
  | e :: es =>
    if e = c then some es
    else if route e = route c then none
    else (takeFirst c es).map (e :: ·)

/-- The state once the receiving block has taken event `c`, if `c` is the next of its route. -/
def State.takeSent (s : State) (c : Instr) : Option State :=
  (takeFirst c s.sent).map (fun rest => { s with sent := rest })

/-- A GRD placement of doorway d. -/
def isGrdPlacement (d : Door) (c : Instr) : Bool := route c == some (.guardToTable d)

/-- R87: a channel that leaves for STANDING, FAULTED or EGRESS before its GRD placement is taken has that
placement not made. -/
def State.dropGrd (s : State) (d : Door) : State :=
  { s with sent := s.sent.filter (fun c => !isGrdPlacement d c) }

/-- Channel d is in RUN: the part is in RUN, the doorway is fitted, and the channel has taken the entry
into RUN (R76, R179; log 15). -/
def State.chanInRun (s : State) (d : Door) : Bool :=
  s.mode == .run && s.fitted d && !s.sent.contains (.channelRunEntry d)

/-! ### The Hold Table (Chapter 1) -/

/-- A hold in force (R7). -/
def Hold.inForce (h : Hold) : Bool := h.level != 0

/-- Live holds of an issuer (R11). -/
def State.liveCount (s : State) (x : Issuer) : Nat :=
  s.slots.toList.countP (fun a => match a.hold with
    | some h => h.issuer == x
    | none => false)

/-- Free pool slots (R11). -/
def State.freePool (s : State) : Nat := poolSlots.countP (fun i => (s.hold i).isNone)

/-- R3: the lowest free pool slot. -/
def State.lowestFree (s : State) : Option SlotNo := poolSlots.find? (fun i => (s.hold i).isNone)

/-- How a handle resolves (Table 1-2). -/
inductive Resolution where
  | live (i : SlotNo) (h : Hold)
  | retired (r : Reason)
  | stale
deriving DecidableEq, Repr

/-- Table 1-2 at a slot the handle names. -/
def Slot.resolve (x : Slot) (i : SlotNo) (g : Byte) : Resolution :=
  match x.hold with
  | some h => if h.handle.generation = g then .live i h else .stale
  | none =>
    match x.lastReason with
    | some r => if x.generation = g + 1#8 then .retired r else .stale
    | none => .stale

/-- R5, Table 1-2. -/
def State.resolveHandle (s : State) (h : Handle) : Resolution :=
  if h.epoch ≠ s.epoch then .stale
  else if hs : h.slot.toNat < 64 then (s.slot ⟨h.slot.toNat, hs⟩).resolve ⟨h.slot.toNat, hs⟩ h.generation
  else .stale

/-- The slots whose live hold passes a test, in ascending order. -/
def State.slotsWhere (s : State) (p : SlotNo → Hold → Bool) : List SlotNo :=
  slotNos.filter (fun i => match s.hold i with
    | some h => p i h
    | none => false)

/-- The union of the scopes of the holds in some slots. -/
def State.scopeOf (s : State) (is : List SlotNo) : DoorSet :=
  is.foldl (fun sc i => match s.hold i with
    | some h => sc ||| h.scope
    | none => sc) 0#8

/-- R18, items 1 to 5: one retirement. `own` says that it is REQUESTED by the hold's own issuer. -/
def State.retireSlot (s : State) (i : SlotNo) (r : Reason) (own : Bool) : State :=
  match s.hold i with
  | none => s
  | some h =>
    let told := isPool i && !own
    let s1 := s.setSlot i
      { hold := none
        generation := (s.slot i).generation + 1#8
        lastReason := some r
        mark := if told then some h.issuer else (s.slot i).mark }
    if told then s1.raiseOn (issuerPort h.issuer) .retired else s1

/-- R18: several holds retired in one event, in ascending slot order. -/
def State.retireSlots (s : State) (is : List SlotNo) (r : Reason) (own : Bool) : State :=
  is.foldl (fun s i => s.retireSlot i r own) s

/-- R25: channel d stands in a starting condition. -/
def State.inStartingCondition (s : State) (d : Door) : Bool :=
  match (s.chan d).state with
  | .isOpen => true
  | .openBlocked => (s.guard d).openExhausted
  | .standing => true
  | .faulted => true
  | .egress => true
  | .unfitted => false
  | .unreferenced => false
  | .referencing => false
  | .locked => false
  | .unlocking => false
  | .plugOut => false
  | .slideOpen => false
  | .stopping => false
  | .warning => false
  | .slideClose => false
  | .plugIn => false
  | .locking => false
  | .reseat => false
  | .relief => false

/-- R25: a hold that is WAITING for a doorway in a starting condition starts at once. -/
def State.startAtOnce (s : State) (h : Hold) : Hold :=
  if h.countdown = .waiting ∧ doors.any (fun d => h.scope == single d && s.inStartingCondition d)
  then { h with countdown := .running } else h

/-- R24: the countdown of a hold that waits for doorway d starts. -/
def Slot.startCountdown (d : Door) (x : Slot) : Slot :=
  match x.hold with
  | some h =>
    if h.countdown = .waiting ∧ h.scope = single d
    then { x with hold := some { h with countdown := .running } } else x
  | none => x

/-- R24: a countdown start for doorway d. -/
def State.startCountdowns (s : State) (d : Door) : State :=
  { s with slots := s.slots.map (Slot.startCountdown d) }

/-! ### Demand resolution (Chapter 2) -/

/-- The holds in force over doorway d, in ascending slot order (2.2). -/
def State.holdsOver (s : State) (d : Door) : List Hold :=
  (s.slots.toList.filterMap Slot.hold).filter (fun h => has h.scope d && h.inForce)

/-- The highest level among holds. -/
def topLevel (hs : List Hold) : HoldLevel := hs.foldl (fun m h => max m h.level) 0

/-- R36: doorway d is released. -/
def State.released (s : State) (d : Door) : Bool :=
  (s.hold (rlnSlot (sideOf d))).isSome &&
  match s.cfg.relMode with
  | .lineOnly => true
  | .lineAndLink => (s.holdsOver d).any (fun h => h.issuer == .trn && h.kind == .release)

/-- R39: the open target, from every OPEN hold at the top level. -/
def openTarget (openEnd : Nat) (atTop : List Hold) : Nat :=
  atTop.foldl (fun m h => max m (h.limit.getD openEnd)) 0

/-- R33 to R39: the demand record of a fitted doorway, a function of the holds in force over it, REL_MODE
and the referenced flag (R46). -/
def State.resolve (s : State) (d : Door) : Demand :=
  let hs := s.holdsOver d
  let rel := s.released d
  match hs.find? (fun h => h.kind == .egress) with
  | some h => { kind := .egress, gov := some h.handle, target := none, released := rel, blocked := false }
  | none =>
    let iso := hs.filter (fun h => h.kind == .isolate)
    match iso.find? (fun h => h.level == topLevel iso) with
    | some h => { kind := .isolated, gov := some h.handle, target := none, released := rel, blocked := false }
    | none =>
      let oc := hs.filter (fun h => h.kind == .opens || h.kind == .closes)
      let atTop := oc.filter (fun h => h.level == topLevel oc)
      match atTop.find? (fun h => h.kind == .closes) with
      | some h => { kind := .closes, gov := some h.handle, target := none, released := rel, blocked := false }
      | none =>
        match atTop.head? with
        | none => { kind := .closes, gov := none, target := none, released := rel, blocked := false }
        | some h =>
          if rel && (s.chan d).referenced then
            { kind := .opens, gov := some h.handle, target := some (openTarget (s.cfg.openEnd d) atTop)
              released := rel, blocked := false }
          else
            { kind := .closes, gov := some h.handle, target := none, released := rel, blocked := true }

/-! ### Outputs that follow other state -/

/-- R53: a side's chime is on while a fitted doorway of the side is in WARNING. -/
def State.chimeWanted (s : State) (sd : Side) : Bool :=
  (sideDoors sd).any (fun d => s.fitted d && (s.chan d).state == .warning)

/-- The chimes and attention lines take their level within each event (R53, R173). A part that takes an
event has finished its start (log 11). -/
def State.settle (s : State) : State :=
  { s with
    epochOld := none
    chime0 := s.chimeWanted .left
    chime1 := s.chimeWanted .right
    portT := { s.portT with attention := s.portT.wantsAttention }
    portS := { s.portS with attention := s.portS.wantsAttention } }

/-! ### The frame of a meaning -/

/-- One command taken by a part that runs: its effect, then the outputs that follow. A held or unpowered
part takes nothing (R180; log 13). -/
def act (s : State) (f : State → State) : Host.Outcome State Fault Refusal :=
  .next (if s.running then (f s).settle else s)

/-- An event that another block has sent: it is taken if it is outstanding and the next of its route;
otherwise there is no such event and nothing happens (log 6, 8). -/
def actSent (s : State) (c : Instr) (f : State → State) : Host.Outcome State Fault Refusal :=
  act s (fun s => match s.takeSent c with
    | some s1 => f s1
    | none => s)

end Sys2Proof.Machine
end

