-- ==== Sys2Proof/Machine/Channel.lean ====
section
/-! DEFINITION. What a doorway channel and its guard section do: entries into states, faults, detections,
and the reaction to a delivered demand record (Chapters 3, 4, 6 and 7). Every definition here is part of
ONE event at channel d. -/

namespace Sys2Proof.Machine

/-! ### Positions, bands and levels -/

/-- R51: the band of a position. -/
def bandOf (p : Position) : Fin 8 := ⟨p.val / 128, by omega⟩

/-- The position counter set, with its band (R49, R51). -/
def Channel.setPos (c : Channel) (p : Position) : Channel := { c with position := p, band := bandOf p }

/-- R52: a level worked out as a sum is capped at 255. -/
def capAdd (a b : Byte) : Byte := if 255 < a.toNat + b.toNat then 255#8 else a + b

/-- The drive with BOOST added to its level (R83). -/
def Drive.boosted (dr : Drive) (b : Byte) : Drive :=
  match dr with
  | .free => .free
  | .brake => .brake
  | .driveOpen l => .driveOpen (capAdd l b)
  | .driveClose l => .driveClose (capAdd l b)

/-- The opening motion states (3.3). -/
def isOpeningState (st : ChState) : Bool := st == .plugOut || st == .slideOpen

/-- The closing motion states (3.3). -/
def isClosingState (st : ChState) : Bool := st == .slideClose || st == .plugIn

/-- The states in which a motion is supervised (R80). -/
def isMotionState (st : ChState) : Bool :=
  st == .plugOut || st == .slideOpen || st == .slideClose || st == .plugIn || st == .referencing

/-! ### Parts of an entry -/

/-- The entry into a state that is not a passage within a motion: its outputs (Table 3-2); every timer
of the state before ends (R69, R70, R137). -/
def Channel.rest (c : Channel) (st : ChState) (dr : Drive) (sol : Bool) (lamp : Lamp) : Channel :=
  { c with
    state := st, drive := dr, solenoid := sol, lamp := lamp
    warn := none, pause := none, travel := none, unlock := none, lockWait := none, retryWait := none }

/-- R80: the stall stage becomes IDLE. -/
def Guard.idle (g : Guard) : Guard := { g with stage := .idle, stallTimer := none }

/-- R91: the reopen count, last cause and capture are zeroed together. -/
def Guard.zeroReopen (g : Guard) : Guard :=
  { g with reopenCount := 0, lastCause := none, capturedPos := none, capturedBand := none }

/-- R97: the open retry count and open exhausted are zeroed. -/
def Guard.zeroRetry (g : Guard) : Guard := { g with openRetry := 0, openExhausted := false }

/-- R98: the whole obstruction record is zeroed. -/
def Guard.zeroRecord (g : Guard) : Guard := g.zeroReopen.zeroRetry

/-- R80: the beginning of a motion, with the stall interval in 10 ms. -/
def Guard.beginMotion (g : Guard) (interval : Nat) : Guard :=
  { g with blank := 0, stage := .normal, stallTimer := some interval }

def enterState (d : Door) (st : ChState) (dr : Drive) (sol : Bool) (lamp : Lamp) (s : State) : State :=
  (s.modChan d (·.rest st dr sol lamp)).modGuard d Guard.idle

/-- R42, R49: the referenced flag clears, and the record is recomputed in the same event. The record that
results is EGRESS exactly when the one before was (step 1 of R33 does not read the flag), so FAULTED and
EGRESS, the only states entered with it, take it without reaction (R138, R42). -/
def clearReferenced (d : Door) (s : State) : State :=
  let s1 := s.modChan d (fun c => { c with referenced := false })
  if (s.chan d).referenced && s.fitted d then s1.setDemand d (s1.resolve d) else s1

/-! ### Faults (Chapter 7) -/

/-- R137: the entry into FAULTED, with its FAULT notice and its event to the Hold Table. -/
def enterFaulted (d : Door) (s : State) : State :=
  ((((clearReferenced d (enterState d .faulted .free false .off s)).dropGrd d).send
    (.channelEntryAtTable d .faulted))).raiseDoor .fault d

/-- The fault record with a cause recorded (R136). -/
def recordCause (c : Channel) (cause : FaultCause) : FaultRecord :=
  match c.fault with
  | some r => { r with later := some cause }
  | none =>
    { first := cause
      firstPosition := if c.referenced then some c.position else none
      firstState := c.state
      later := none }

/-- R129: a fault cause taken at the channel. -/
def detectCause (d : Door) (cause : FaultCause) (s : State) : State :=
  let c := s.chan d
  let s1 := (s.modChan d (fun c => { c with fault := some (recordCause c cause) })).raiseDoor .fault d
  if c.fault.isSome || c.state == .egress then s1 else enterFaulted d s1

/-- R132: an entry into a braking or driving state finds BFLTd asserted. -/
def bridgeCheck (d : Door) (s : State) : State :=
  if s.asserted (.bflt d) && (s.chan d).drive != .free then detectCause d .bridge s else s

/-- R134: the plausibility timer starts where LKSd is made and CLSd broken, outside EGRESS. -/
def startPlaus (d : Door) (s : State) : State :=
  if s.asserted (.lks d) && !s.asserted (.cls d) && (s.chan d).state != .egress
  then s.modChan d (fun c => { c with plaus := some 10 }) else s

/-! ### Opening (3.5, 4.6) -/

/-- R61: is the arrival governed by the doorway's GRD hold, in slot 10+d? -/
def governedByGrd (d : Door) (r : Demand) : Bool :=
  match r.gov with
  | some h => h.slot.toNat == (grdSlot d).val
  | none => false

/-- R61: the entry into OPEN, an arrival. -/
def enterOpen (d : Door) (s : State) : State :=
  let keep := governedByGrd d (s.demand d)
  bridgeCheck d
    (((enterState d .isOpen .brake false .off s).modGuard d
      (fun g => (if keep then g else g.zeroReopen).zeroRetry)).send (.countdownStart d))

/-- R94, R96: an opening obstruction. -/
def openingObstruction (d : Door) (s : State) : State :=
  let n := min 3 ((s.guard d).openRetry.val + 1)
  let s1 := (enterState d .openBlocked .brake false .off s).modGuard d
    (fun g => { g with openRetry := Fin.ofNat 4 n })
  bridgeCheck d
    (if n < 3 then s1.modChan d (fun c => { c with retryWait := some s.cfg.openRetryTime })
     else ((s1.modGuard d (fun g => { g with openExhausted := true })).raiseDoor .standing d).send
       (.countdownStart d))

/-- The drive, threshold and solenoid of an opening motion state at the channel's position (R51, R59, R116). -/
def Channel.openProfile (cfg : Image) (d : Door) (slide : Bool) (c : Channel) : Channel :=
  { c with
    state := if slide then .slideOpen else .plugOut
    drive := .driveOpen (cfg.openLevel d c.band)
    threshold := cfg.openForce d c.band
    solenoid := !slide && decide (c.position.val ≤ cfg.lockWindow d)
    lamp := .off }

/-- R59, R60, R69, R80: an opening motion begins in PLUG_OUT or SLIDE_OPEN. -/
def beginOpening (d : Door) (slide : Bool) (s : State) : State :=
  let s1 := ((enterState d .plugOut .free false .off s).modChan d
      (fun c => { c.openProfile s.cfg d slide with travel := some (.opening, s.cfg.travelOpen d) })).modGuard d
      (·.beginMotion (s.cfg.stallInterval d))
  let s2 := bridgeCheck d s1
  if s.cfg.blankSteps d = 0 ∧ s2.asserted (.frc d) ∧ isOpeningState (s2.chan d).state
  then openingObstruction d s2 else s2

/-- An opening decision by position (R64, R68, R90, R93, R95): an arrival inside the end window of the
target, else SLIDE_OPEN at PLUG_POINT or above, else PLUG_OUT. -/
def openByPosition (d : Door) (s : State) : State :=
  let p := (s.chan d).position.val
  match (s.demand d).target with
  | none => s
  | some t =>
    if t ≤ p + s.cfg.endWindow d then enterOpen d s
    else beginOpening d (decide (s.cfg.plugPoint d ≤ p)) s

/-! ### Locking and referencing (3.4, 6.2, 6.3) -/

/-- R117: the entry into UNLOCKING. -/
def enterUnlocking (d : Door) (s : State) : State :=
  let s1 := bridgeCheck d ((enterState d .unlocking .brake true .off s).modChan d
    (fun c => { c with unlock := some (.first, s.cfg.unlockTime d) }))
  if (s1.chan d).state = .unlocking ∧ ¬ s1.asserted (.lks d) then beginOpening d false s1 else s1

/-- R57, R91, R97: the entry into LOCKED. -/
def enterLocked (d : Door) (s : State) : State :=
  ((enterState d .locked .free false .off s).modChan d (·.setPos 0)).modGuard d Guard.zeroRecord

/-- R119: the entry into LOCKING, by a closed switch that is made. -/
def enterLocking (d : Door) (s : State) : State :=
  let s1 := bridgeCheck d ((enterState d .locking (.driveClose (s.cfg.pressLevel d)) false .on s).modChan d
    (fun c => { c with lockWait := some (s.cfg.lockTime d) }))
  if (s1.chan d).state = .locking ∧ s1.asserted (.lks d) then enterLocked d s1 else s1

/-- R120: the entry into RESEAT. -/
def enterReseat (d : Door) (s : State) : State :=
  bridgeCheck d ((enterState d .reseat (.driveClose (capAdd (s.cfg.pressLevel d) (s.cfg.boost d))) false .on
    s).modChan d (fun c => { c with lockWait := some (s.cfg.lockTime d) }))

/-- R42, R49, R97: the referenced flag sets, the position becomes 0, the channel enters LOCKED or LOCKING,
and the recomputed record is delivered to the new state (R56): an OPEN demand unlocks LOCKED and takes
LOCKING to PLUG_OUT. -/
def takeReference (d : Door) (press : Bool) (s : State) : State :=
  let s1 := (s.modChan d (fun c => { c.setPos 0 with referenced := true })).modGuard d Guard.zeroRetry
  let s2 := if press then enterLocking d s1 else enterLocked d s1
  let r := s2.resolve d
  if r = s2.demand d then s2
  else
    let s3 := s2.setDemand d r
    if r.kind = .opens then
      if (s3.chan d).state = .locked then enterUnlocking d s3
      else if (s3.chan d).state = .locking then beginOpening d false s3
      else s3
    else s3

/-! ### Closing (3.6, 3.7, 4.3 to 4.5) -/

/-- R63: the entry into WARNING, with the interval chosen by the reopen count. -/
def enterWarning (d : Door) (s : State) : State :=
  let n := if (s.guard d).reopenCount = 0 then s.cfg.warnTime else s.cfg.recloseWarn
  bridgeCheck d ((enterState d .warning .brake false (.flashing true) s).modChan d
    (fun c => { c with warn := some n }))

/-- R68: the entry into STOPPING. -/
def enterStopping (d : Door) (s : State) : State :=
  bridgeCheck d ((enterState d .stopping .brake false .off s).modChan d
    (fun c => { c with pause := some s.cfg.reversalPause }))

/-- R92: the entry into STANDING. -/
def enterStanding (d : Door) (s : State) : State :=
  (((enterState d .standing .free false (.flashing true) s).raiseDoor .standing d).dropGrd d).send
    (.channelEntryAtTable d .standing)

/-- R70: the entry into EGRESS. -/
def enterEgress (d : Door) (s : State) : State :=
  ((clearReferenced d ((enterState d .egress .free true .off s).modChan d
    (fun c => { c with plaus := none }))).dropGrd d).send (.channelEntryAtTable d .egress)

/-- R90: the decision at the end of a relief. -/
def endRelief (d : Door) (s : State) : State :=
  if s.cfg.reopenMax < (s.guard d).reopenCount then enterStanding d s
  else match (s.demand d).kind with
    | .opens => openByPosition d s
    | .closes => enterWarning d s
    | .isolated => enterWarning d s
    | .egress => enterEgress d s

/-- R88: the entry into RELIEF. It ends at once where a referenced position is already at OPEN_END. -/
def enterRelief (d : Door) (s : State) : State :=
  let s1 := bridgeCheck d ((enterState d .relief (.driveOpen (s.cfg.reliefLevel d)) false .on s).modGuard d
    (fun g => { g with reliefSteps := 0, stage := .single, stallTimer := some (s.cfg.stallInterval d) }))
  if (s1.chan d).state = .relief ∧ (s1.chan d).referenced ∧ s.cfg.openEnd d ≤ (s1.chan d).position.val
  then endRelief d s1 else s1

/-- R87: the open limit of a GRD placement for a captured position. -/
def grdLimit (cfg : Image) (d : Door) (captured : Position) : Option Nat :=
  if cfg.reopenPartial then
    some (min (max (captured.val + cfg.reopenDist) (cfg.plugPoint d + 1)) (cfg.openEnd d))
  else none

/-- R87: the values of a GRD placement. -/
def grdPlacement (cfg : Image) (d : Door) (captured : Position) : Placement :=
  { issuer := .grd, slot := grdSlot d, level := cfg.guardLevel, lifetime := some cfg.reopenDwell
    waiting := true, limit := grdLimit cfg d captured }

/-- R86: a closing detection. -/
def closingDetection (d : Door) (cause : ObsCause) (s : State) : State :=
  let c := s.chan d
  let n := min ((s.guard d).reopenCount + 1) (s.cfg.reopenMax + 1)
  let s1 := s.modGuard d (fun g =>
    { g with
      reopenCount := n, lastCause := some cause
      capturedPos := if c.referenced then some c.position else none
      capturedBand := if c.referenced then some (bandOf c.position) else none })
  enterRelief d
    (if n ≤ s.cfg.reopenMax ∧ c.referenced
     then s1.send (.internalPlacement (grdPlacement s.cfg d c.position)) else s1)

/-- Where the sensitive edge is watched (R81, Table 4-2). -/
def edgeWatched (cfg : Image) (d : Door) (c : Channel) : Bool :=
  c.state == .slideClose || c.state == .referencing ||
  (c.state == .plugIn && decide (cfg.edgeMute d < c.position.val))

/-- A force detection in a motion (R82): closing with cause FORCE, or an opening obstruction. -/
def forceDetection (d : Door) (s : State) : State :=
  if isOpeningState (s.chan d).state then openingObstruction d s else closingDetection d .force s

/-- R81, R82: what the guard finds at the beginning of a closing motion or of REFERENCING. -/
def senseAtStart (d : Door) (s : State) : State :=
  if s.asserted (.edge d) && edgeWatched s.cfg d (s.chan d) then closingDetection d .edge s
  else if s.cfg.blankSteps d = 0 ∧ s.asserted (.frc d) ∧ isMotionState (s.chan d).state
  then closingDetection d .force s
  else s

/-- The drive, threshold and lamp of a closing motion state at the channel's position (R51, R65, R66). -/
def Channel.closeProfile (cfg : Image) (d : Door) (slide : Bool) (c : Channel) : Channel :=
  { c with
    state := if slide then .slideClose else .plugIn
    drive := .driveClose (cfg.closeLevel d c.band)
    threshold := cfg.closeForce d c.band
    solenoid := false
    lamp := .on }

/-- R66: a leaf in PLUG_IN in the lock zone with its closed switch made. -/
def lockZoneReached (d : Door) (s : State) : Bool :=
  (s.chan d).state == .plugIn && decide ((s.chan d).position.val ≤ s.cfg.lockWindow d) && s.asserted (.cls d)

/-- R65, R66, R69, R80: a closing motion begins in SLIDE_CLOSE or PLUG_IN, by position (R63). -/
def beginClosing (d : Door) (s : State) : State :=
  let slide := decide (s.cfg.plugPoint d < (s.chan d).position.val)
  let s1 := bridgeCheck d (((enterState d .plugIn .free false .on s).modChan d
      (fun c => { c.closeProfile s.cfg d slide with travel := some (.closing, s.cfg.travelClose d) })).modGuard d
      (·.beginMotion (s.cfg.stallInterval d)))
  if lockZoneReached d s1 then enterLocking d s1 else senseAtStart d s1

/-- R56: the end of REFERENCING at the closed switch. -/
def endReferencing (d : Door) (s : State) : State := takeReference d (!s.asserted (.lks d)) s

/-- R56: the entry into REFERENCING. -/
def enterReferencing (d : Door) (s : State) : State :=
  let s1 := bridgeCheck d (((enterState d .referencing (.driveClose (s.cfg.refLevel d)) false .on s).modChan d
      (fun c => { c with
        threshold := s.cfg.closeForce d 0
        travel := some (.referencing, 2 * s.cfg.travelClose d) })).modGuard d
      (·.beginMotion (s.cfg.stallInterval d)))
  if (s1.chan d).state = .referencing then
    if s1.asserted (.cls d) then endReferencing d s1 else senseAtStart d s1
  else s1

/-! ### UNREFERENCED and EGRESS (R50, R55, R71) -/

/-- R55: what UNREFERENCED does with its demand record. -/
def actUnreferenced (d : Door) (s : State) : State :=
  let r := s.demand d
  match r.kind with
  | .egress => enterEgress d s
  | .opens => s
  | .closes => if r.blocked && r.released then s else enterWarning d s
  | .isolated => if r.blocked && r.released then s else enterWarning d s

/-- R50, R55: the entry into UNREFERENCED, with its reference check. A channel that has not yet taken the
entry into RUN makes no check and takes no action on its record (R75; log 15). -/
def enterUnreferenced (d : Door) (s : State) : State :=
  let s1 := enterState d .unreferenced .free false .off s
  if !s1.chanInRun d then s1
  else if s1.bothMade d then takeReference d false s1
  else actUnreferenced d s1

/-- R71, R134: the exit from EGRESS at a record whose demand is not EGRESS. -/
def exitEgress (d : Door) (s : State) : State :=
  let s1 := enterState d .unreferenced .free false .off s
  let s2 := if s1.chanInRun d then startPlaus d s1 else s1
  if (s2.chan d).fault.isSome then enterFaulted d s2 else enterUnreferenced d s2

/-! ### The reaction to a delivered record (R54, Table 3-3) -/

/-- R54: the record differs from the one before in its demand or its open target, and so draws a reaction. One that
differs in its handle or a flag alone draws none but from UNREFERENCED and from a WARNING without reference: the OPEN
record that R93 lets leave STANDING is one with a new demand or a new target (log 17). -/
def demandChanged (old new : Demand) : Bool := old.kind != new.kind || old.target != new.target

/-- R62: OPEN takes a new target beyond the position plus END_WINDOW. -/
def reactOpen (d : Door) (s : State) : State :=
  let p := (s.chan d).position.val
  match (s.demand d).target with
  | none => s
  | some t =>
    if p + s.cfg.endWindow d < t then beginOpening d (decide (s.cfg.plugPoint d ≤ p)) s else s

/-- R60: SLIDE_OPEN takes a new target at or below the position. -/
def reactSlideOpen (d : Door) (s : State) : State :=
  match (s.demand d).target with
  | none => s
  | some t => if t ≤ (s.chan d).position.val then enterOpen d s else s

/-- R95: OPEN_BLOCKED takes a new target whose end window contains the position. -/
def reactOpenBlocked (d : Door) (s : State) : State :=
  match (s.demand d).target with
  | none => s
  | some t => if t ≤ (s.chan d).position.val + s.cfg.endWindow d then enterOpen d s else s

/-- Table 3-3, the column of a demand OPEN or a changed target. -/
def reactToOpen (d : Door) (s : State) : State :=
  match (s.chan d).state with
  | .unfitted => s
  | .unreferenced => s
  | .referencing => s
  | .locked => enterUnlocking d s
  | .unlocking => s
  | .plugOut => s
  | .slideOpen => reactSlideOpen d s
  | .isOpen => reactOpen d s
  | .openBlocked => reactOpenBlocked d s
  | .stopping => s
  | .warning => openByPosition d s
  | .slideClose => enterStopping d s
  | .plugIn => enterStopping d s
  | .locking => beginOpening d false s
  | .reseat => beginOpening d false s
  | .relief => s
  | .standing => openByPosition d s
  | .egress => s
  | .faulted => s

/-- Table 3-3, the column of a closing demand (CLOSE or ISOLATED, R54). -/
def reactToClose (d : Door) (s : State) : State :=
  match (s.chan d).state with
  | .unfitted => s
  | .unreferenced => s
  | .referencing => s
  | .locked => s
  | .unlocking => enterLocked d s
  | .plugOut => enterStopping d s
  | .slideOpen => enterStopping d s
  | .isOpen => enterWarning d s
  | .openBlocked => enterWarning d (s.modGuard d Guard.zeroRetry)
  | .stopping => s
  | .warning => s
  | .slideClose => s
  | .plugIn => s
  | .locking => s
  | .reseat => s
  | .relief => s
  | .standing => s
  | .egress => s
  | .faulted => s

/-- R64: a closing record blocked with released set, delivered to a WARNING without reference. -/
def reactWarningUnreferenced (d : Door) (s : State) : State :=
  let r := s.demand d
  if r.blocked && r.released then enterUnreferenced d s else s

/-- R43, R54, Table 3-3: the channel acts on the record just delivered; `old` is the record before. -/
def react (d : Door) (old : Demand) (s : State) : State :=
  let new := s.demand d
  let c := s.chan d
  if c.state = .unfitted then s
  else if new.kind = .egress then (if c.state = .egress then s else enterEgress d s)
  else if c.state = .egress then exitEgress d s
  else if !s.chanInRun d then s
  else if c.state = .unreferenced then actUnreferenced d s
  else if c.state = .warning ∧ ¬ c.referenced then reactWarningUnreferenced d s
  else if !demandChanged old new then s
  else if new.kind = .opens then reactToOpen d s
  else reactToClose d s

/-! ### Events at a channel, and recomputation -/

/-- One event at channel d: a change of its state between the event's beginning and end is handed to the
Car Loop Unit (R72, R121). -/
def atChannel (d : Door) (f : State → State) (s : State) : State :=
  let t := f s
  if (t.chan d).state = (s.chan d).state then t else t.send (.channelStateAtClu d (t.chan d).state)

/-- R41, R43: the record of a fitted doorway recomputed and, if it differs, delivered. -/
def recomputeDoor (d : Door) (s : State) : State :=
  if !s.fitted d then s
  else
    let old := s.demand d
    let new := s.resolve d
    if new = old then s else atChannel d (react d old) (s.setDemand d new)

/-- R41, R44: the records of the fitted doorways of a handed scope. -/
def recompute (sc : DoorSet) (s : State) : State :=
  doors.foldl (fun s d => if has sc d then recomputeDoor d s else s) s

end Sys2Proof.Machine
end

