-- ==== Sys2Proof/Machine/Lines.lean ====
section
/-! DEFINITION. The Line Input Unit (Chapter 5): samples, acceptances, and what each acceptance sends, with
the commands LINE_SAMPLE, LINE_ACCEPTANCE and LINE_INPUT_RUN_ENTRY. -/

namespace Sys2Proof.Machine

/-! ### What the line issuers send (5.2 to 5.4) -/

/-- Several events sent in order. -/
def State.sendAll (s : State) (es : List Instr) : State := { s with sent := s.sent ++ es }

/-- R106: the RLN placement of a side. -/
def rlnPlacement (sd : Side) : Placement :=
  { issuer := .rln, slot := rlnSlot sd, level := 7, lifetime := none, waiting := false, limit := none }

/-- R106: what an asserted release line sends. -/
def releaseEvents (sd : Side) : List Instr :=
  .internalPlacement (rlnPlacement sd) :: (sideDoors sd).map (fun d => .raise (pnlSlot d))

/-- R106, R107: a release line accepted in RUN. Like every line it acts by the mode of the part, so also before
LINE_INPUT_RUN_ENTRY is taken (DESIGN CHOICE, log 39). -/
def takeRelease (sd : Side) (on : Bool) (s : State) : State :=
  if s.mode ≠ .run then s
  else if on then s.sendAll (releaseEvents sd)
  else s.send (.lineDroppedRetirement sd)

/-- R108: ZSPD accepted; its level also goes to the Car Loop Unit in both modes (R105, R115). -/
def takeZeroSpeed (lv : Level) (s : State) : State :=
  let s1 := s.send (.zspdAtClu lv)
  if s.mode ≠ .run then s1
  else if s.isActive .release lv then s1.sendAll (doors.map (fun d => .raise (hdlSlot d)))
  else s1.raiseBoth .lines

/-- R109: the panel enable of a side. -/
def State.panelEnable (s : State) : Side → Bool
  | .left => s.panelLeft
  | .right => s.panelRight

/-- Table 5-2: the placement of a press on an enabled panel, `none` where the press is ignored. -/
def pressPlacement (d : Door) (s : State) : Option Placement :=
  if s.asserted (relLine (sideOf d)) then
    some { issuer := .pnl, slot := pnlSlot d, level := s.cfg.buttonLevel
           lifetime := some s.cfg.buttonDwell, waiting := true, limit := none }
  else if s.cfg.buttonMemory = 0 then none
  else
    some { issuer := .pnl, slot := pnlSlot d, level := 0, lifetime := some s.cfg.buttonMemory
           waiting := false, limit := none }

/-- R110: BTNd accepted; a press in RUN on an enabled panel. -/
def takeButton (d : Door) (on : Bool) (s : State) : State :=
  if s.mode = .run ∧ on ∧ s.panelEnable (sideOf d) then
    match pressPlacement d s with
    | some q => s.send (.internalPlacement q)
    | none => s
  else s

/-- R112: the HDL placement of a handle pulled now. -/
def handlePlacement (d : Door) (s : State) : Placement :=
  { issuer := .hdl, slot := hdlSlot d
    level := if s.asserted .zspd || !s.cfg.egressInhibitMoving then 7 else 0
    lifetime := none, waiting := false, limit := none }

/-- R112: HDLd accepted; a pull in RUN. -/
def takeHandle (d : Door) (on : Bool) (s : State) : State :=
  if s.mode = .run ∧ on then s.send (.internalPlacement (handlePlacement d s)) else s

/-- R105, Table 5-1: an accepted level handed to the line's consumers. The lines of an unfitted doorway are
handed to none. What a line does in RUN it does from the change of mode on, also before LINE_INPUT_RUN_ENTRY is
taken (DESIGN CHOICE, log 39). -/
def handOver (l : Line) (lv : Level) (s : State) : State :=
  match l with
  | .relL => takeRelease .left (s.isActive .release lv) s
  | .relR => takeRelease .right (s.isActive .release lv) s
  | .zspd => takeZeroSpeed lv s
  | .mkey => s
  | .btn d => if s.fitted d then takeButton d (s.isActive .panel lv) s else s
  | .hdl d => if s.fitted d then takeHandle d (s.isActive .panel lv) s else s
  | .edge d => if s.fitted d then s.send (.edgeAcceptedAtGuard d lv) else s
  | .cls d =>
    if s.fitted d then s.sendAll [.clsAcceptedAtChannel d lv, .provenFlagUpdate d .closed lv] else s
  | .lks d =>
    if s.fitted d then s.sendAll [.lksAcceptedAtChannel d lv, .provenFlagUpdate d .locked lv] else s
  | .frc d => if s.fitted d then s.send (.frcAcceptedAtGuard d lv) else s
  | .bflt d => if s.fitted d then s.send (.bfltAcceptedAtChannel d lv) else s

/-- R103, R105: one acceptance. -/
def acceptLine (l : Line) (lv : Level) (s : State) : State :=
  handOver l lv (s.setFilter l { pin := lv, level := lv, count := 0 })

/-- R103: one line's filter takes a sample. -/
def sampleLine (l : Line) (lv : Level) (s : State) : State :=
  let f := s.filter l
  if lv = f.level then s.setFilter l { f with pin := lv, count := 0 }
  else if f.count = 2 then acceptLine l lv s
  else s.setFilter l { f with pin := lv, count := f.count + 1 }

/-- R103: the lines of a class sampled together, in the order of Table 5-1 (log 22). -/
def sampleClass (c : LineClass) (levels : List Level) (s : State) : State :=
  ((linesOf c).zip levels).foldl (fun s x => sampleLine x.1 x.2 s) s

/-- The pins of a class moved while the part is held: no sample is taken (R180). -/
def movePins (c : LineClass) (levels : List Level) (s : State) : State :=
  ((linesOf c).zip levels).foldl (fun s x => s.setFilter x.1 { s.filter x.1 with pin := x.2 }) s

/-- LINE_SAMPLE (R103). A class with code 0 takes no samples; a list that does not name every line of the
class is no sample of it (log 22). -/
def execLineSample (c : LineClass) (levels : List Level) (s : State) : Host.Outcome State Fault Refusal :=
  .next
    (if !sampleFits c levels then s
     else if !s.running then movePins c levels s
     else if s.cfg.filterCode c = 0 then s
     else (sampleClass c levels s).settle)

/-- R103: this level is accepted now: at once with code 0, else at the third consecutive differing sample. -/
def acceptsNow (l : Line) (lv : Level) (s : State) : Bool :=
  lv != (s.filter l).level && (s.cfg.filterCode (classOf l) == 0 || (s.filter l).count == 2)

/-- LINE_ACCEPTANCE (R103). In a class with a filter code of 1 to 7 it is the third differing sample of that one
line, without a sample of the other lines of the class (DESIGN CHOICE, log 38). -/
def execLineAcceptance (l : Line) (lv : Level) (s : State) : Host.Outcome State Fault Refusal :=
  .next
    (if !s.running then s.setFilter l { s.filter l with pin := lv }
     else if acceptsNow l lv s then (acceptLine l lv s).settle
     else s)

/-- R115: the entry into RUN at the Line Input Unit: asserted release lines and handle lines of fitted
doorways are taken as though just accepted: REL_L, then REL_R, then the handles in ascending order (DESIGN CHOICE,
log 40). -/
def takeLineRunEntry (s : State) : State :=
  let s1 := if s.asserted .relL then takeRelease .left true s else s
  let s2 := if s1.asserted .relR then takeRelease .right true s1 else s1
  doors.foldl (fun s d => if s.fitted d && s.asserted (.hdl d) then takeHandle d true s else s) s2

/-- LINE_INPUT_RUN_ENTRY (R115). -/
def execLineInputRunEntry (s : State) : Host.Outcome State Fault Refusal :=
  actSent s .lineInputRunEntry takeLineRunEntry

end Sys2Proof.Machine
end

