-- ==== Sys2Proof/Machine/Operands.lean ====
section
/-! DEFINITION. The operands of requests: the code tables (Table 11-2), the bytes of parameters
(Table 11-3) in both directions, the form check (R145, R182) and the CRC-8 (R165). -/

namespace Sys2Proof.Machine

/-! ### The CRC-8 (R165) -/

/-- R165: one shift of the register. -/
def crcShift (c : Byte) : Byte := if c.msb then (c <<< 1) ^^^ 0x07#8 else c <<< 1

/-- R165: the register after a character. -/
def crcByte (c b : Byte) : Byte :=
  crcShift (crcShift (crcShift (crcShift (crcShift (crcShift (crcShift (crcShift (c ^^^ b))))))))

/-- R165: the CRC-8 of a run of characters. -/
def crc8 (bs : List Byte) : Byte := bs.foldl crcByte 0#8

/-! ### Request kinds (Table 11-2, Table 8-1) -/

/-- The twenty requests, in code order. -/
inductive RequestKind where
  | presence | place | amend | renew | retire | withdraw | lookup | survey | doorwayReport | carReport
  | clearObstruction | clearFault | panel | collectNotices | noticeMask | configRead | configWrite
  | configStore | startRun | restart
deriving DecidableEq, Repr

/-- The kind character of a request (Table 11-2). -/
def RequestKind.code : RequestKind → Byte
  | .presence => 0x01#8
  | .place => 0x02#8
  | .amend => 0x03#8
  | .renew => 0x04#8
  | .retire => 0x05#8
  | .withdraw => 0x06#8
  | .lookup => 0x07#8
  | .survey => 0x08#8
  | .doorwayReport => 0x09#8
  | .carReport => 0x0A#8
  | .clearObstruction => 0x0B#8
  | .clearFault => 0x0C#8
  | .panel => 0x0D#8
  | .collectNotices => 0x0E#8
  | .noticeMask => 0x0F#8
  | .configRead => 0x10#8
  | .configWrite => 0x11#8
  | .configStore => 0x12#8
  | .startRun => 0x13#8
  | .restart => 0x14#8

/-- The request of a kind character (R145 check 1). -/
def RequestKind.ofCode (b : Byte) : Option RequestKind :=
  match b.toNat with
  | 0x01 => some .presence
  | 0x02 => some .place
  | 0x03 => some .amend
  | 0x04 => some .renew
  | 0x05 => some .retire
  | 0x06 => some .withdraw
  | 0x07 => some .lookup
  | 0x08 => some .survey
  | 0x09 => some .doorwayReport
  | 0x0A => some .carReport
  | 0x0B => some .clearObstruction
  | 0x0C => some .clearFault
  | 0x0D => some .panel
  | 0x0E => some .collectNotices
  | 0x0F => some .noticeMask
  | 0x10 => some .configRead
  | 0x11 => some .configWrite
  | 0x12 => some .configStore
  | 0x13 => some .startRun
  | 0x14 => some .restart
  | _ => none

/-- Table 8-1, Sender (R145 check 2), for the issuers that send requests. -/
def RequestKind.sentBy : RequestKind → Issuer → Bool
  | .clearFault, x => x == .atd || x == .mnt
  | .panel, x => x == .trn || x == .atd
  | .configWrite, x => x == .mnt
  | .configStore, x => x == .mnt
  | .startRun, x => x == .mnt
  | .restart, x => x == .mnt
  | _, x => x == .trn || x == .atd || x == .mnt

/-- Table 8-1, Mode (R145 check 3). -/
def RequestKind.allowedIn : RequestKind → Mode → Bool
  | .place, m => m == .run
  | .amend, m => m == .run
  | .renew, m => m == .run
  | .retire, m => m == .run
  | .withdraw, m => m == .run
  | .clearObstruction, m => m == .run
  | .clearFault, m => m == .run
  | .panel, m => m == .run
  | .configWrite, m => m == .configure
  | .configStore, m => m == .configure
  | .startRun, m => m == .configure
  | _, _ => true

/-! ### Codes of operands (Table 11-2) -/

/-- Kind code of a hold. -/
def kindOfByte (b : Byte) : Option HoldKind :=
  match b.toNat with
  | 0 => some .release
  | 1 => some .opens
  | 2 => some .closes
  | 3 => some .isolate
  | 4 => some .egress
  | _ => none

def kindCode : HoldKind → Byte
  | .release => 0#8
  | .opens => 1#8
  | .closes => 2#8
  | .isolate => 3#8
  | .egress => 4#8

/-- Issuer code. -/
def issuerOfByte (b : Byte) : Option Issuer :=
  match b.toNat with
  | 0 => some .trn
  | 1 => some .atd
  | 2 => some .mnt
  | 3 => some .rln
  | 4 => some .pnl
  | 5 => some .grd
  | 6 => some .hdl
  | _ => none

def issuerCode : Issuer → Byte
  | .trn => 0#8
  | .atd => 1#8
  | .mnt => 2#8
  | .rln => 3#8
  | .pnl => 4#8
  | .grd => 5#8
  | .hdl => 6#8

/-- A filter byte: FFh is absent (R182). `none` is a value outside the code table. -/
def filterOf {α : Type} (dec : Byte → Option α) (b : Byte) : Option (Option α) :=
  if b = 0xFF#8 then some none else (dec b).map some

/-- A level 0 to 7. -/
def levelOfByte (b : Byte) : Option HoldLevel := if h : b.toNat < 8 then some ⟨b.toNat, h⟩ else none

/-- A lifetime: FFFFh unlimited, or 1 to 6000 tenths (R8). The outer `none` is out of range. -/
def lifetimeOfHalf (w : Half) : Option (Option Nat) :=
  if w = 0xFFFF#16 then some none
  else if 1 ≤ w.toNat ∧ w.toNat ≤ 6000 then some (some w.toNat) else none

/-- An open limit: FFFFh absent, or a position 0 to 1023 (Table 8-3). The outer `none` is out of range. -/
def limitOfHalf (w : Half) : Option (Option Nat) :=
  if w = 0xFFFF#16 then some none
  else if w.toNat ≤ 1023 then some (some w.toNat) else none

/-- A one-byte value 0 or 1 (side, action, retire-when-locked). -/
def bitOfByte (b : Byte) : Option Bool :=
  match b.toNat with
  | 0 => some false
  | 1 => some true
  | _ => none

def boolByte (b : Bool) : Byte := if b then 1#8 else 0#8

/-- A number of two bytes, most significant first (R182). -/
def halfBytes (w : Half) : List Byte := [w.extractLsb' 8 8, w.extractLsb' 0 8]

def halfOf (hi lo : Byte) : Half := hi ++ lo

def handleBytes (h : Handle) : List Byte := [h.epoch, h.slot, h.generation]

/-- A position, lifetime or limit field: FFFFh where absent (R182). -/
def optBytes (x : Option Nat) : List Byte :=
  match x with
  | none => [0xFF#8, 0xFF#8]
  | some n => halfBytes (BitVec.ofNat 16 n)

/-! ### Parameters on the wire (Table 11-3) -/

/-- The parameter character at a position. -/
def paramAt (b : List Byte) (n : Nat) : Byte := b.getD n 0#8

/-- A parameter of two characters. -/
def halfAt (b : List Byte) (n : Nat) : Half := halfOf (paramAt b n) (paramAt b (n + 1))

/-- A handle parameter. -/
def handleAt (b : List Byte) (n : Nat) : Handle :=
  { epoch := paramAt b n, slot := paramAt b (n + 1), generation := paramAt b (n + 2) }

/-- PLACE: 10 characters. -/
def placeBytes (q : PlaceParams) : List Byte :=
  [q.kind, q.scope, q.level, q.options] ++ halfBytes q.lifetime ++ halfBytes q.openLimit ++ halfBytes q.tag

def placeOf (b : List Byte) : PlaceParams :=
  { kind := paramAt b 0, scope := paramAt b 1, level := paramAt b 2, options := paramAt b 3
    lifetime := halfAt b 4, openLimit := halfAt b 6, tag := halfAt b 8 }

/-- AMEND: 11 characters. -/
def amendBytes (q : AmendParams) : List Byte :=
  handleBytes q.handle ++ [q.marks, q.level, q.scope] ++ halfBytes q.openLimit ++ [q.rwl] ++ halfBytes q.tag

def amendOf (b : List Byte) : AmendParams :=
  { handle := handleAt b 0, marks := paramAt b 3, level := paramAt b 4, scope := paramAt b 5
    openLimit := halfAt b 6, rwl := paramAt b 8, tag := halfAt b 9 }

/-- RENEW: 5 characters. -/
def renewBytes (h : Handle) (lifetime : Half) : List Byte := handleBytes h ++ halfBytes lifetime

/-- CONFIG_READ: 3 characters. -/
def configReadBytes (offset : Half) (count : Byte) : List Byte := halfBytes offset ++ [count]

/-- CONFIG_WRITE: offset, count, data. -/
def configWriteBytes (offset : Half) (data : List Byte) : List Byte :=
  halfBytes offset ++ [BitVec.ofNat 8 data.length] ++ data

/-- R145 check 4, R182: the parameters have the number of characters their kind calls for, and no
option or mark bit without a meaning is set. -/
def formOk (k : RequestKind) (b : List Byte) : Bool :=
  match k with
  | .presence => b.length == 0
  | .place => b.length == 10 && (paramAt b 3 &&& 0xFC#8) == 0#8
  | .amend => b.length == 11 && (paramAt b 3 &&& 0xE0#8) == 0#8
  | .renew => b.length == 5
  | .retire => b.length == 3
  | .withdraw => b.length == 1
  | .lookup => b.length == 3
  | .survey => b.length == 3
  | .doorwayReport => b.length == 1
  | .carReport => b.length == 0
  | .clearObstruction => b.length == 1
  | .clearFault => b.length == 1
  | .panel => b.length == 2
  | .collectNotices => b.length == 0
  | .noticeMask => b.length == 1
  | .configRead => b.length == 3
  | .configWrite => decide (3 ≤ b.length) && b.length == 3 + (paramAt b 2).toNat && decide (b.length ≤ 30)
  | .configStore => b.length == 0
  | .startRun => b.length == 0
  | .restart => b.length == 0

/-! ### Characters received (R163) -/

/-- The sum, modulo 2, of the data bits. -/
def parityOf (b : Byte) : Bool := (List.range 8).foldl (fun acc i => acc ^^ b.getLsbD i) false

/-- R163: a parity error. -/
def parityError (l : LineSettings) (ch : RxChar) : Bool :=
  match l.parity with
  | .none => false
  | .even => ch.parityBit != parityOf ch.data
  | .odd => ch.parityBit == parityOf ch.data

/-- R163: a character error. -/
def charError (l : LineSettings) (ch : RxChar) : Bool := parityError l ch || !ch.stopHigh

/-- R163: the number of bits of one character under a port's settings. -/
def charBits (l : LineSettings) : Nat :=
  1 + 8 + (if l.parity = .none then 0 else 1) + (if l.twoStopBits then 2 else 1)

/-- R163: a character of 00h whose line was still low at its first stop bit: the line is held low for longer
than one character. -/
def isBreak (l : LineSettings) (ch : RxChar) : Bool :=
  ch.data == 0#8 && !ch.stopHigh && (l.parity == .none || !ch.parityBit)

/-- R163: the level that a bit has on the line. -/
def bitLevel (b : Bool) : Level := if b then .high else .low

/-- R163: the parity bit that a port sends with a character, if any. -/
def sentParity (l : LineSettings) (c : Byte) : List Level :=
  match l.parity with
  | .none => []
  | .even => [bitLevel (parityOf c)]
  | .odd => [bitLevel (!parityOf c)]

/-- R163: the bits of one character as a port sends it: a start bit, eight data bits least significant first,
the parity bit if any, and the configured stop bits. -/
def sentBits (l : LineSettings) (c : Byte) : List Level :=
  .low :: ((List.range 8).map (fun i => bitLevel (c.getLsbD i)) ++ sentParity l c ++
    List.replicate (if l.twoStopBits then 2 else 1) .high)

end Sys2Proof.Machine
end

