-- ==== Sys2Proof/Machine/Flags.lean ====
section
/-! DEFINITION. Answers: result codes (Table 8-2, Table 11-2), the four answer flags (R146, R169) and
the formation of an answer. -/

namespace Sys2Proof.Machine

/-- The result codes (Table 8-2), in code order. -/
inductive Result where
  | ok | badRequest | notPermitted | levelDenied | quota | tableFull | stale | retired | mode
  | handleActive | faultPersists | configInvalid | lineError
deriving DecidableEq, Repr

/-- Table 11-2. -/
def Result.code : Result → Byte
  | .ok => 0x00#8
  | .badRequest => 0x01#8
  | .notPermitted => 0x02#8
  | .levelDenied => 0x03#8
  | .quota => 0x04#8
  | .tableFull => 0x05#8
  | .stale => 0x06#8
  | .retired => 0x07#8
  | .mode => 0x08#8
  | .handleActive => 0x09#8
  | .faultPersists => 0x0A#8
  | .configInvalid => 0x0B#8
  | .lineError => 0x0C#8

/-- A result with its payload. -/
structure Reply where
  result : Result
  payload : List Byte
deriving DecidableEq, Repr

/-- OK with a payload. -/
def Reply.ok (payload : List Byte) : Reply := { result := .ok, payload := payload }

/-- A refusal without detail. -/
def Reply.refuse (r : Result) : Reply := { result := r, payload := [] }

/-- How a request is answered (R169): now; at the completion of the store (R160); or now, with a start
after the answer's last character (R162). -/
inductive ReplyForm where
  | now (r : Reply)
  | atStore
  | thenRestart
deriving DecidableEq, Repr

/-- R169: bit 0 OVERRUN, bit 1 NOTICE, bit 2 RUN, bit 3 LOOP, as they stand on a port (Table 11-1). -/
def State.answerFlags (s : State) (p : Port) : Byte :=
  (if (s.port p).overrun then 0x01#8 else 0#8) |||
  (if (s.port p).kinds ≠ 0#8 then 0x02#8 else 0#8) |||
  (if s.mode = .run then 0x04#8 else 0#8) |||
  (if s.clu.loop then 0x08#8 else 0#8)

/-- The answer formed now to a kind and sequence character (R168, R169). -/
def State.answerFor (s : State) (p : Port) (kind seq : Byte) (r : Reply) : Answer :=
  { kind := kind + 0x80#8, seq := seq, result := r.result.code, flags := s.answerFlags p, payload := r.payload }

/-- R169: an answer is formed; the overrun flag clears and the slot becomes SENDING. -/
def State.formAnswer (s : State) (p : Port) (kind seq : Byte) (r : Reply) (restart : Bool) : State :=
  s.modPort p (fun x => { x with overrun := false, slot := .sending (s.answerFor p kind seq r) restart })

/-- The body of an answer (R169). -/
def Answer.body (a : Answer) : List Byte := [a.kind, a.seq, a.result, a.flags] ++ a.payload

/-- R164, R165: a message on the line: start, LEN, body, CRC. -/
def frameOf (body : List Byte) : List Byte :=
  0xA5#8 :: BitVec.ofNat 8 body.length :: (body ++ [crc8 (BitVec.ofNat 8 body.length :: body)])

/-- The characters that a port is sending (R169), none while its transmit line is idle. -/
def State.transmitting (s : State) (p : Port) : List Byte :=
  match (s.port p).slot with
  | .free => []
  | .reserved _ => []
  | .sending a _ => frameOf a.body

/-- R163, R169: the bits of the answer that a port is sending, one character after another; none while its
transmit line rests high. -/
def State.transmittedBits (s : State) (p : Port) : List Level :=
  (s.transmitting p).flatMap (sentBits (s.port p).line)

end Sys2Proof.Machine
end

