-- ==== Sys2Proof/Machine/Formats.lean ====
section
/-! DEFINITION. The payloads of answers (Tables 11-3 to 11-6). A byte or bit to which the tables give no
content is a free value (log 10). -/

namespace Sys2Proof.Machine

/-- The free byte number n. -/
def freeByte (n : Nat) : Byte := BitVec.ofNat 8 (Config.freeValue n)

/-- A byte whose bits of `open_` the tables leave without content: those are free. -/
def withFree (v open_ : Byte) (n : Nat) : Byte := (v &&& ~~~open_) ||| (freeByte n &&& open_)

/-- One bit of a byte. -/
def bitAt (b : Bool) (n : Nat) : Byte := if b then 1#8 <<< n else 0#8

/-- A set of doorways from a property. -/
def doorSetOf (f : Door → Bool) : DoorSet :=
  doors.foldl (fun acc d => if f d then acc ||| single d else acc) 0#8

/-! ### Codes of answers (Table 11-2) -/

def reasonCode : Reason → Byte
  | .requested => 1#8
  | .expired => 2#8
  | .fulfilled => 3#8
  | .lineDropped => 4#8
  | .panelOff => 5#8
  | .linkLost => 6#8
  | .standing => 7#8
  | .faulted => 8#8
  | .egress => 9#8

/-- A reason that may be absent; a marked or RETIRED slot always has one. -/
def reasonByte : Option Reason → Byte
  | none => 0#8
  | some r => reasonCode r

def chStateCode : ChState → Byte
  | .unfitted => 0#8
  | .unreferenced => 1#8
  | .referencing => 2#8
  | .locked => 3#8
  | .unlocking => 4#8
  | .plugOut => 5#8
  | .slideOpen => 6#8
  | .isOpen => 7#8
  | .openBlocked => 8#8
  | .stopping => 9#8
  | .warning => 10#8
  | .slideClose => 11#8
  | .plugIn => 12#8
  | .locking => 13#8
  | .reseat => 14#8
  | .relief => 15#8
  | .standing => 16#8
  | .egress => 17#8
  | .faulted => 18#8

def demandCode : DemandKind → Byte
  | .opens => 0#8
  | .closes => 1#8
  | .isolated => 2#8
  | .egress => 3#8

/-- Drive mode code and level in force, 0 for FREE and BRAKE (Table 11-5). -/
def driveCode : Drive → Byte × Byte
  | .free => (0#8, 0#8)
  | .brake => (1#8, 0#8)
  | .driveOpen l => (2#8, l)
  | .driveClose l => (3#8, l)

def obsCode : Option ObsCause → Byte
  | none => 0#8
  | some .edge => 1#8
  | some .force => 2#8
  | some .stall => 3#8

/-- Cause and detail codes of a fault cause. -/
def faultCode : FaultCause → Byte × Byte
  | .encoder => (1#8, 0#8)
  | .range => (2#8, 0#8)
  | .bridge => (3#8, 0#8)
  | .unlock => (4#8, 0#8)
  | .lock => (5#8, 0#8)
  | .lockLost .closed => (6#8, 0#8)
  | .lockLost .locked => (6#8, 1#8)
  | .switch .lockedWithoutClosed => (7#8, 0#8)
  | .switch .closedInSlide => (7#8, 1#8)
  | .travel .opening => (8#8, 0#8)
  | .travel .closing => (8#8, 1#8)
  | .travel .referencing => (8#8, 2#8)

def supCode : Supervision → Byte
  | .unsupervised => 0#8
  | .active => 1#8
  | .silent => 2#8
  | .lost => 3#8

def resetCauseCode : ResetCause → Byte
  | .powerOn => 0#8
  | .resetLine => 1#8
  | .restart => 2#8

def provingCode : ProvingStage → Byte
  | .unproven => 0#8
  | .proving => 1#8
  | .proven => 2#8

/-! ### The hold record (Table 11-4) -/

/-- R8: the remaining lifetime answered for a hold, with the free value n: unlimited; the full lifetime
while WAITING; 1 to the lifetime while counting down. -/
def remaining (h : Hold) (n : Nat) : Option Nat :=
  match h.lifetime with
  | none => none
  | some l => some (if h.countdown = .waiting then l else 1 + Config.freeValue n % l)

/-- The 15 bytes of a hold record. -/
def holdBytes (h : Hold) (n : Nat) : List Byte :=
  handleBytes h.handle ++
  [issuerCode h.issuer, kindCode h.kind, h.scope, BitVec.ofNat 8 h.level.val] ++
  optBytes (remaining h n) ++
  [if h.countdown = .waiting then 1#8 else 0#8] ++
  optBytes h.limit ++ [boolByte h.rwl] ++ halfBytes h.tag

/-! ### The DOORWAY_REPORT entry (Table 11-5) -/

/-- Bytes 0 to 5: the channel items. -/
def channelBytes (s : State) (d : Door) (n : Nat) : List Byte :=
  let c := s.chan d
  [BitVec.ofNat 8 d.val, chStateCode c.state,
   withFree (bitAt (s.asserted (.cls d)) 0 ||| bitAt (s.asserted (.lks d)) 1 |||
     ((driveCode c.drive).1 <<< 4)) 0xCC#8 n,
   (driveCode c.drive).2] ++
  optBytes (if c.referenced then some c.position.val else none)

/-- Bytes 6 to 11: the demand record. -/
def demandBytes (r : Demand) (n : Nat) : List Byte :=
  [withFree (demandCode r.kind ||| bitAt r.released 2 ||| bitAt r.blocked 3 ||| bitAt r.gov.isSome 4)
    0xE0#8 n] ++
  (match r.gov with
    | some h => handleBytes h
    | none => [freeByte (n + 1), freeByte (n + 2), freeByte (n + 3)]) ++
  optBytes r.target

/-- Bytes 12 to 16: the obstruction record. -/
def guardBytes (g : Guard) (n : Nat) : List Byte :=
  [BitVec.ofNat 8 g.reopenCount,
   match g.capturedPos, g.capturedBand with
   | some _, some b => withFree (obsCode g.lastCause ||| (BitVec.ofNat 8 b.val <<< 4)) 0x8C#8 n
   | _, _ => withFree (obsCode g.lastCause) 0xFC#8 n] ++
  optBytes (g.capturedPos.map (fun p => p.val)) ++
  [withFree (BitVec.ofNat 8 g.openRetry.val ||| bitAt g.openExhausted 7) 0x7C#8 (n + 1)]

/-- A cause byte: bits 0 to 3 the cause, bits 4 and 5 the detail; 0 in the cause when absent. The 0 that
Table 11-2 gives for the detail of "other causes" is not read as the detail of an absent cause, whose bits 4 and 5 are
free values like bits 6 and 7 (DESIGN CHOICE, log 44). -/
def causeByte (f : Option FaultCause) (n : Nat) : Byte :=
  match f with
  | some c => withFree ((faultCode c).1 ||| ((faultCode c).2 <<< 4)) 0xC0#8 n
  | none => withFree 0#8 0xF0#8 n

/-- Bytes 17 to 21: the fault record. Without a record the first state, byte 20, has no content and is a free
value; the FFh of R182 for a one-byte captured field is not read as this byte (DESIGN CHOICE, log 42). -/
def faultBytes (f : Option FaultRecord) (n : Nat) : List Byte :=
  [causeByte (f.map FaultRecord.first) n] ++
  optBytes (f.bind (fun r => r.firstPosition.map (fun p => p.val))) ++
  [match f with
    | some r => chStateCode r.firstState
    | none => freeByte (n + 1),
   causeByte (f.bind FaultRecord.later) (n + 2)]

/-- The 22 bytes of the entry of doorway d; it uses the free values from n on. -/
def entryBytes (s : State) (d : Door) (n : Nat) : List Byte :=
  channelBytes s d n ++ demandBytes (s.demand d) (n + 1) ++ guardBytes (s.guard d) (n + 5) ++
  faultBytes (s.chan d).fault (n + 7)

/-! ### The CAR_REPORT (Table 11-6) -/

/-- The panel enables byte: bit 0 LEFT, bit 1 RIGHT. -/
def enablesByte (s : State) (n : Nat) : Byte :=
  withFree (bitAt s.panelLeft 0 ||| bitAt s.panelRight 1) 0xFC#8 n

/-- R127: the proving time elapsed, FFh unless PROVING. -/
def provingElapsed (s : State) (n : Nat) : Byte :=
  if s.clu.stage = .proving then BitVec.ofNat 8 (Config.freeValue n % (s.cfg.proveTime + 1)) else 0xFF#8

/-- The seven issuers in code order. -/
def issuers : List Issuer := [.trn, .atd, .mnt, .rln, .pnl, .grd, .hdl]

/-- The 27 bytes of a CAR_REPORT; it uses the free values from n on. Byte 7, the moving-unproven indication, is 1 for set
and 0 for clear, values that Table 11-6 does not give (DESIGN CHOICE, log 45). -/
def carBytes (s : State) (n : Nat) : List Byte :=
  [boolByte (s.mode == .run), resetCauseCode s.resetCause, s.epoch, boolByte (s.source == .defaults),
   boolByte s.clu.loop, provingCode s.clu.stage, provingElapsed s n, boolByte s.clu.movingUnproven,
   withFree (bitAt (s.asserted .relL) 0 ||| bitAt (s.asserted .relR) 1 ||| bitAt (s.asserted .zspd) 2 |||
     bitAt (s.asserted .mkey) 3) 0xF0#8 (n + 1),
   doorSetOf (fun d => s.asserted (.btn d)), doorSetOf (fun d => s.asserted (.hdl d)),
   doorSetOf (fun d => s.asserted (.edge d)), doorSetOf (fun d => s.asserted (.cls d)),
   doorSetOf (fun d => s.asserted (.lks d)), doorSetOf (fun d => s.asserted (.frc d)),
   doorSetOf (fun d => s.asserted (.bflt d)),
   enablesByte s (n + 2), supCode s.portT.sup, supCode s.portS.sup] ++
  issuers.map (fun x => BitVec.ofNat 8 (s.liveCount x)) ++ [BitVec.ofNat 8 s.freePool]

end Sys2Proof.Machine
end

