-- ==== Sys2Proof/Machine/Start.lean ====
section
/-! DEFINITION. Starts, the held part and the entry into RUN (Chapter 10), with the commands POWER_ON,
RESET_LINE_ASSERTED, RESET_LINE_RELEASED, SUPPLY_LOSS and CHANNEL_RUN_ENTRY. -/

namespace Sys2Proof.Machine

/-! ### The entry into RUN (R179) -/

/-- R179: the mode becomes RUN and the entry is handed to the fitted channels and the Line Input Unit, each
of which takes it as an event of its own. The table of commands has no such event for the Car Loop Unit: it reads the
mode, so it is in RUN from the change of mode on (DESIGN CHOICE, log 43). -/
def enterRun (s : State) : State :=
  ({ s with mode := .run }).sendAll
    ((doors.filter s.fitted).map Instr.channelRunEntry ++ [Instr.lineInputRunEntry])

/-- R76, R132, R134: the entry into RUN at a channel: the plausibility check, then the BRIDGE check, else
the entry into UNREFERENCED. A channel that a handle has already taken to EGRESS stays there (log 15). -/
def takeRunEntry (d : Door) (s : State) : State :=
  if !s.chanInRun d ∨ (s.chan d).state = .egress then s
  else
    let s1 := startPlaus d s
    if s1.asserted (.bflt d) then detectCause d .bridge s1 else enterUnreferenced d s1

/-- CHANNEL_RUN_ENTRY (R76). -/
def execChannelRunEntry (d : Door) (s : State) : Host.Outcome State Fault Refusal :=
  actSent s (.channelRunEntry d) (atChannel d (takeRunEntry d))

/-! ### The stored image (R176, R177) -/

/-- R176: the CRC character matches the bytes. -/
def StoredImage.good (im : StoredImage) : Bool := im.crc == crc8 im.image.bytes

/-- R177: the image that a store cut short leaves: some of the new bytes written, and a CRC character that
does not match. How many bytes, and which character, are free values (log 10). -/
def cutImage (old new : StoredImage) (n : Nat) : StoredImage :=
  let k := Config.freeValue n % (imageLength + 1)
  let bytes := new.image.bytes.take k ++ old.image.bytes.drop k
  { image := { bytes := bytes }, crc := crc8 bytes + 1#8 + BitVec.ofNat 8 (Config.freeValue (n + 1) % 255) }

/-- R177: a store in flight is cut short. -/
def cutStore (s : State) : State :=
  match s.store with
  | none => s
  | some im => { s with store := none, stored := cutImage s.stored im s.free, free := s.free + 2 }

/-! ### Starts (R180, R181) -/

/-- R181 steps 1 and 2: the epoch and the configuration. -/
def loadPart (cause : ResetCause) (s : State) : State :=
  { s with
    resetCause := cause
    epochCell := s.epochCell + 1#8
    epochOld := some s.epochCell
    epoch := s.epochCell + 1#8
    cfg := if s.stored.good then s.stored.image else Image.defaults
    source := if s.stored.good then .stored else .defaults }

/-- R77: the channel of doorway d after a start. -/
def startChannel (s : State) (d : Door) : Channel :=
  Channel.start (s.fitted d) (s.chan d).encA (s.chan d).encB

/-- R181 step 3: every block at its start values under the loaded configuration (R30, R32, R77, R79, R115,
R128, R175). Events not yet taken are gone with the blocks that sent them. -/
def startBlocks (s : State) : State :=
  let chans := Vector.ofFn (startChannel s)
  let lines := s.lines.start
  { s with
    sent := []
    mode := .configure
    pwm := s.cfg.pwm
    slots := .replicate 64 .start
    demands := .replicate 8 .resting
    chans := chans
    chime0 := false
    chime1 := false
    guards := .replicate 8 .start
    lines := lines
    panelLeft := false
    panelRight := false
    clu := .start lines chans
    portT := .start (s.cfg.settings .t)
    portS := .start (s.cfg.settings .s) }

/-- R181 step 4: AUTORUN from a good image, with the cross-checks. -/
def autoRun (s : State) : State :=
  if s.source = .stored ∧ s.cfg.autorun ∧ s.cfg.crossCheck = none then enterRun s else s

/-- R181: a start, as one step. A reset or a loss of supply that comes next may cut it short (log 11). -/
def startPart (cause : ResetCause) (s : State) : State :=
  autoRun (startBlocks (loadPart cause (cutStore s)))

/-! ### The held part (R180) -/

/-- R180: the outputs of a channel while the part is held. -/
def Channel.held (c : Channel) : Channel := { c with drive := .free, solenoid := false, lamp := .off }

/-- R181: the epoch cell of a part held or without supply: a start that this cuts short while the cell is being
written leaves its old or its new value, a free value (log 10, 11). -/
def cutStart (s : State) : State :=
  match s.epochOld with
  | none => s
  | some old =>
    { s with
      epochOld := none
      epochCell := if Config.freeValue s.free % 2 = 0 then old else s.epochCell
      free := s.free + 1 }

/-- R180: a port while the part is held: nothing received, transmit line high, attention deasserted. -/
def PortState.held (x : PortState) : PortState :=
  { x with rx := none, awaitHigh := false, slot := .free, buffer := none, attention := false }

/-- R180: the part held by its reset line, or without supply; a store in flight ends (R177), and so does a start
under way (R181). -/
def holdPart (s : State) : State :=
  let t := cutStart (cutStore s)
  { t with
    sent := []
    chans := t.chans.map Channel.held
    chime0 := false
    chime1 := false
    clu := { t.clu with loop := false, stage := .unproven, timer := none }
    portT := t.portT.held
    portS := t.portS.held }

/-- POWER_ON (R180). With the reset line asserted the start waits for its release (log 12). -/
def execPowerOn (s : State) : Host.Outcome State Fault Refusal :=
  .next (if s.resetLine then holdPart { s with supply := true }
    else startPart .powerOn { s with supply := true })

/-- RESET_LINE_ASSERTED (R180). -/
def execResetLineAsserted (s : State) : Host.Outcome State Fault Refusal :=
  .next (holdPart { s with resetLine := true })

/-- RESET_LINE_RELEASED (R180): the start, if the line was asserted and there is supply. -/
def execResetLineReleased (s : State) : Host.Outcome State Fault Refusal :=
  .next (if s.resetLine && s.supply then startPart .resetLine { s with resetLine := false }
    else { s with resetLine := false })

/-- SUPPLY_LOSS (R180). -/
def execSupplyLoss (s : State) : Host.Outcome State Fault Refusal :=
  .next (holdPart { s with supply := false })

end Sys2Proof.Machine
end

