-- ==== Sys2Proof/Machine/ConfigRequests.lean ====
section
/-! DEFINITION. The requests at Configuration and Mode Control: CONFIG_READ, CONFIG_WRITE, CONFIG_STORE,
START_RUN, RESTART (R159 to R162, R174 to R178). -/

namespace Sys2Proof.Machine

/-- The two bytes of a field index (R184). -/
def indexBytes (i : Nat) : List Byte := halfBytes (BitVec.ofNat 16 i)

/-- R178, R159: CONFIG_INVALID with its field index. -/
def configInvalid (i : Nat) : Reply := { result := .configInvalid, payload := indexBytes i }

/-! ### CONFIG_READ (R159) -/

/-- R159: a count of 1 to the most allowed, inside the layout. -/
def spanOk (most offset count : Nat) : Bool :=
  decide (1 ≤ count) && decide (count ≤ most) && decide (offset + count ≤ imageLength)

/-- R159. -/
def doConfigRead (offset : Half) (count : Byte) (s : State) : State × Reply :=
  if spanOk 32 offset.toNat count.toNat then (s, .ok (s.cfg.slice offset.toNat count.toNat))
  else (s, .refuse .badRequest)

/-! ### CONFIG_WRITE (R159, R75, R104, R174) -/

/-- R75, R128: a doorway whose FITTED parameter the write changed. `was` is the part before the write. -/
def applyFitted (was : Image) (s : State) (d : Door) : State :=
  if was.fitted d = s.cfg.fitted d then s
  else
    let s1 := atChannel d (fun s => s.modChan d (fun c =>
      { c with state := if s.cfg.fitted d then .unreferenced else .unfitted })) s
    if s.cfg.fitted d then
      s1.setCluDoor d { s1.cluDoor d with
        cls := (s1.filter (.cls d)).level, lks := (s1.filter (.lks d)).level }
    else s1

/-- R104: a line of a class whose filter code changed: its agreeing count becomes 0, and with the new code
0 a pin that differs is accepted. -/
def applyCode (code : Nat) (s : State) (l : Line) : State :=
  let f := s.filter l
  if code = 0 ∧ f.pin ≠ f.level then acceptLine l f.pin s else s.setFilter l { f with count := 0 }

/-- R104: a class whose settings the write changed. -/
def applyClass (was : Image) (s : State) (c : LineClass) : State :=
  if was.filterCode c = s.cfg.filterCode c then s
  else (linesOf c).foldl (applyCode (s.cfg.filterCode c)) s

/-- R174: SUP_TIME set to 0. -/
def applySup (s : State) (p : Port) : State :=
  if s.cfg.supTime p = 0 then s.modPort p (fun x => { x with sup := .unsupervised, supTimer := none }) else s

/-- R159: the bytes replaced, and what takes effect within the event: FITTED first, then the filter codes, so that
a doorway just made fitted is handed the acceptances of a new code 0 (DESIGN CHOICE, log 41), and those of several
classes are taken class by class (DESIGN CHOICE, log 22). -/
def writeConfig (offset : Nat) (data : List Byte) (s : State) : State :=
  let was := s.cfg
  let s1 := { s with cfg := s.cfg.patch offset data }
  let s2 := doors.foldl (applyFitted was) s1
  let s3 := [LineClass.release, .panel, .edge, .switch, .drive].foldl (applyClass was) s2
  applySup (applySup s3 .t) .s

/-- R159: a write, checked whole before anything is written. -/
def doConfigWrite (offset : Half) (data : List Byte) (s : State) : State × Reply :=
  if spanOk 27 offset.toNat data.length then
    match (s.cfg.patch offset.toNat data).badField offset.toNat data.length with
    | some i => (s, configInvalid i)
    | none => (writeConfig offset.toNat data s, .ok [])
  else (s, .refuse .badRequest)

/-! ### CONFIG_STORE, START_RUN (R160, R161) -/

/-- R177: the bytes and CRC that a store writes. -/
def storeOf (im : Image) : StoredImage := { image := im, crc := crc8 im.bytes }

/-- R160, R177: the store begins. -/
def doConfigStore (s : State) : State := { s with store := some (storeOf s.cfg) }

/-- R161. -/
def doStartRun (s : State) : State × Reply :=
  match s.cfg.crossCheck with
  | some i => (s, configInvalid i)
  | none => (enterRun s, .ok [])

end Sys2Proof.Machine
end

