-- ==== Sys2Proof/Machine/Motion.lean ====
section
/-! DEFINITION. The events at a channel from its encoder, its switches, its bridge line and its own timers
(Chapters 3, 6 and 7), and their commands. -/

namespace Sys2Proof.Machine

/-- One event at a channel that is in RUN (log 15); outside RUN a channel takes none of them (R75). -/
def inRun (d : Door) (f : State → State) (s : State) : State :=
  if s.chanInRun d then atChannel d f s else s

/-! ### The encoder (R48, R49) -/

def Level.flip : Level → Level
  | .low => .high
  | .high => .low

/-- R48: the pair moved one place in the cycle (0,0), (1,0), (1,1), (0,1). -/
def Channel.turnEncoder (c : Channel) (dir : Dir) : Channel :=
  if (c.encA = c.encB) = (dir = .opening) then { c with encA := Level.flip c.encA }
  else { c with encB := Level.flip c.encB }

/-- R48: both lines changed together. -/
def Channel.crossEncoder (c : Channel) : Channel :=
  { c with encA := Level.flip c.encA, encB := Level.flip c.encB }

/-- R49: a step counted modulo 1024. -/
def Channel.count (c : Channel) (dir : Dir) : Channel :=
  match dir with
  | .opening => c.setPos (c.position + 1)
  | .closing => c.setPos (c.position - 1)

/-- R49, R131: a referenced step that would leave 0 to 1023 or exceed OPEN_END + 32. -/
def outOfRange (cfg : Image) (d : Door) (c : Channel) (dir : Dir) : Bool :=
  match dir with
  | .opening => decide (1023 ≤ c.position.val) || decide (cfg.openEnd d + 32 ≤ c.position.val)
  | .closing => decide (c.position.val = 0)

/-- The passage from one opening motion state to the other, or the same state's values taken again for the
band now reached (R51, R59, R60); travel timer and guard section stand. -/
def passOpening (d : Door) (slide : Bool) (s : State) : State :=
  let t := s.modChan d (Channel.openProfile s.cfg d slide)
  if (t.chan d).state = (s.chan d).state then t else bridgeCheck d t

/-- The same for the closing motion states (R51, R65, R66). -/
def passClosing (d : Door) (slide : Bool) (s : State) : State :=
  let t := s.modChan d (Channel.closeProfile s.cfg d slide)
  if (t.chan d).state = (s.chan d).state then t else bridgeCheck d t

/-- R47: a counted step compared with the geometry, by the rule of the state. -/
def stepGeometry (d : Door) (s : State) : State :=
  let p := (s.chan d).position.val
  let plug := s.cfg.plugPoint d
  match (s.chan d).state with
  | .plugOut => passOpening d (decide (plug ≤ p)) s
  | .slideOpen =>
    match (s.demand d).target with
    | some t => if t ≤ p then enterOpen d s else passOpening d (decide (plug ≤ p)) s
    | none => passOpening d (decide (plug ≤ p)) s
  | .slideClose =>
    let t := passClosing d (decide (plug < p)) s
    if lockZoneReached d t then enterLocking d t else t
  | .plugIn =>
    if lockZoneReached d s then enterLocking d s else passClosing d (decide (plug < p)) s
  | .unfitted => s
  | .unreferenced => s
  | .referencing => s
  | .locked => s
  | .unlocking => s
  | .isOpen => s
  | .openBlocked => s
  | .stopping => s
  | .warning => s
  | .locking => s
  | .reseat => s
  | .relief => s
  | .standing => s
  | .egress => s
  | .faulted => s

/-- R135: the step from PLUG_POINT to PLUG_POINT + 1 of a referenced position with CLSd made. -/
def stepInSlide (d : Door) (before : Channel) (s : State) : State :=
  let c := s.chan d
  if c.referenced ∧ before.position.val = s.cfg.plugPoint d ∧ c.position.val = s.cfg.plugPoint d + 1
      ∧ s.asserted (.cls d)
  then detectCause d (.switch .closedInSlide) s else s

/-- R80, R81, R82, R83: a step taken in a motion, at the guard section. -/
def stepInMotion (d : Door) (before : Channel) (s : State) : State :=
  let g := s.guard d
  let blank := min (g.blank + 1) (s.cfg.blankSteps d)
  let s1 := s.modGuard d (fun g =>
    { g with blank := blank, stage := .normal, stallTimer := some (s.cfg.stallInterval d) })
  let s2 := if (s1.chan d).state = .referencing
    then s1.modChan d (fun c => { c with drive := .driveClose (s.cfg.refLevel d) }) else s1
  if s2.asserted (.edge d) && edgeWatched s.cfg d (s2.chan d) && !edgeWatched s.cfg d before
  then closingDetection d .edge s2
  else if g.blank < s.cfg.blankSteps d ∧ blank = s.cfg.blankSteps d ∧ s2.asserted (.frc d)
  then forceDetection d s2
  else s2

/-- R88: a step taken in RELIEF. -/
def stepInRelief (d : Door) (s : State) : State :=
  let n := (s.guard d).reliefSteps + 1
  let s1 := s.modGuard d (fun g => { g with reliefSteps := n, stallTimer := some (s.cfg.stallInterval d) })
  if s.cfg.reliefSteps d ≤ n ∨ ((s.chan d).referenced ∧ s.cfg.openEnd d ≤ (s.chan d).position.val)
  then endRelief d s1 else s1

/-- The supervisions of Chapter 4 at a step, in the state that the geometry left. -/
def stepAtGuard (d : Door) (before : Channel) (s : State) : State :=
  if isMotionState (s.chan d).state then stepInMotion d before s
  else if (s.chan d).state = .relief ∧ before.state = .relief then stepInRelief d s
  else s

/-- A counted step in RUN: geometry, closed-in-slide, supervision, in that order (log 16). -/
def afterStep (d : Door) (before : Channel) (s : State) : State :=
  stepAtGuard d before (stepInSlide d before (stepGeometry d s))

/-- R48, R49: a step at the channel, its encoder lines already moved. -/
def takeStep (d : Door) (dir : Dir) (s : State) : State :=
  let c := s.chan d
  if c.state = .unfitted then s
  else if !s.chanInRun d then s.modChan d (·.count dir)
  else if c.referenced && outOfRange s.cfg d c dir then atChannel d (detectCause d .range) s
  else atChannel d (afterStep d c) (s.modChan d (·.count dir))

/-- STEP (R48). The encoder lines of a held part move too, uncounted (R180). -/
def execEncoderStep (d : Door) (dir : Dir) (s : State) : Host.Outcome State Fault Refusal :=
  let s1 := s.modChan d (·.turnEncoder dir)
  .next (if s.running then (takeStep d dir s1).settle else s1)

/-- ILLEGAL_TRANSITION (R130). -/
def execIllegalTransition (d : Door) (s : State) : Host.Outcome State Fault Refusal :=
  let s1 := s.modChan d Channel.crossEncoder
  .next (if s.running then (inRun d (detectCause d .encoder) s1).settle else s1)

/-! ### Switches (R50, R56, R66, R117, R119, R123, R134, R135) -/

/-- The pair of switches completes at a channel that waits for it: LOCKING and RESEAT lock (R119), an
unreferenced UNREFERENCED or WARNING takes its reference (R50). -/
def pairMade (d : Door) (s : State) : State :=
  let c := s.chan d
  if c.state = .locking ∨ c.state = .reseat then enterLocked d s
  else if (c.state = .unreferenced ∨ c.state = .warning) ∧ ¬ c.referenced then takeReference d false s
  else s

/-- CLSd made, taken at the channel. -/
def clsMade (d : Door) (s : State) : State :=
  let s1 := s.modChan d (fun c => { c with plaus := none })
  let c := s1.chan d
  if c.referenced ∧ s.cfg.plugPoint d < c.position.val then detectCause d (.switch .closedInSlide) s1
  else if c.state = .referencing then endReferencing d s1
  else if c.state = .plugIn ∧ c.position.val ≤ s.cfg.lockWindow d then enterLocking d s1
  else if s1.asserted (.lks d) then pairMade d s1
  else s1

/-- CLSd broken, taken at the channel. -/
def clsBroken (d : Door) (s : State) : State :=
  let s1 := if s.asserted (.lks d) && (s.chan d).state != .egress
    then s.modChan d (fun c => { c with plaus := some 10 }) else s
  if (s1.chan d).state = .locked then detectCause d (.lockLost .closed) s1 else s1

/-- LKSd made, taken at the channel. -/
def lksMade (d : Door) (s : State) : State :=
  if s.asserted (.cls d) then pairMade d s
  else if (s.chan d).state = .egress then s
  else s.modChan d (fun c => { c with plaus := some 10 })

/-- LKSd broken, taken at the channel. -/
def lksBroken (d : Door) (s : State) : State :=
  let s1 := s.modChan d (fun c => { c with plaus := none })
  if (s1.chan d).state = .locked then detectCause d (.lockLost .locked) s1
  else if (s1.chan d).state = .unlocking then beginOpening d false s1
  else s1

/-- CLS_ACCEPTED_AT_CHANNEL (R66). -/
def execClsAcceptedAtChannel (d : Door) (lv : Level) (s : State) : Host.Outcome State Fault Refusal :=
  actSent s (.clsAcceptedAtChannel d lv)
    (inRun d (fun s => if s.isActive .switch lv then clsMade d s else clsBroken d s))

/-- LKS_ACCEPTED_AT_CHANNEL (R117). -/
def execLksAcceptedAtChannel (d : Door) (lv : Level) (s : State) : Host.Outcome State Fault Refusal :=
  actSent s (.lksAcceptedAtChannel d lv)
    (inRun d (fun s => if s.isActive .switch lv then lksMade d s else lksBroken d s))

/-- BFLT_ACCEPTED_AT_CHANNEL (R132): an assertion while the drive is not FREE. -/
def execBfltAcceptedAtChannel (d : Door) (lv : Level) (s : State) : Host.Outcome State Fault Refusal :=
  actSent s (.bfltAcceptedAtChannel d lv)
    (inRun d (fun s => if s.isActive .drive lv && (s.chan d).drive != .free
      then detectCause d .bridge s else s))

/-! ### The channel's own timers -/

/-- R63: the end of the warning interval. -/
def warningEnd (d : Door) (s : State) : State :=
  if (s.chan d).warn.isNone then s
  else if (s.chan d).referenced then beginClosing d s
  else enterReferencing d s

/-- WARNING_INTERVAL_EXPIRY (R63). -/
def execWarningIntervalExpiry (d : Door) (s : State) : Host.Outcome State Fault Refusal :=
  act s (inRun d (warningEnd d))

/-- R68: the end of the reversal pause. -/
def pauseEnd (d : Door) (s : State) : State :=
  if (s.chan d).pause.isNone then s
  else match (s.demand d).kind with
    | .opens => openByPosition d s
    | .closes => enterWarning d s
    | .isolated => enterWarning d s
    | .egress => enterEgress d s

/-- REVERSAL_PAUSE_EXPIRY (R68). -/
def execReversalPauseExpiry (d : Door) (s : State) : Host.Outcome State Fault Refusal :=
  act s (inRun d (pauseEnd d))

/-- R69, R133: the travel timer reaches its limit. -/
def travelEnd (d : Door) (s : State) : State :=
  match (s.chan d).travel with
  | none => s
  | some (m, _) => detectCause d (.travel m) s

/-- TRAVEL_TIMER_EXPIRY (R69). -/
def execTravelTimerExpiry (d : Door) (s : State) : Host.Outcome State Fault Refusal :=
  act s (inRun d (travelEnd d))

/-- R117: the end of an unlock wait: FIRST to PAUSE, PAUSE to SECOND, SECOND to an UNLOCK fault. -/
def unlockWaitEnd (d : Door) (s : State) : State :=
  match (s.chan d).unlock with
  | none => s
  | some (.first, _) => s.modChan d (fun c => { c with unlock := some (.pause, 10), solenoid := false })
  | some (.pause, _) =>
    s.modChan d (fun c => { c with unlock := some (.second, s.cfg.unlockTime d), solenoid := true })
  | some (.second, _) => detectCause d .unlock s

/-- UNLOCK_WAIT_EXPIRY (R117). -/
def execUnlockWaitExpiry (d : Door) (s : State) : Host.Outcome State Fault Refusal :=
  act s (inRun d (unlockWaitEnd d))

/-- R119, R120: the end of the lock wait: LOCKING to RESEAT, RESEAT to a LOCK fault. -/
def lockWaitEnd (d : Door) (s : State) : State :=
  if (s.chan d).lockWait.isNone then s
  else if (s.chan d).state = .locking then enterReseat d s
  else detectCause d .lock s

/-- LOCK_WAIT_EXPIRY (R120). -/
def execLockWaitExpiry (d : Door) (s : State) : Host.Outcome State Fault Refusal :=
  act s (inRun d (lockWaitEnd d))

/-- R95: the retry, at the end of the wait or at once at a CLEAR_OBSTRUCTION (R98). -/
def retryNow (d : Door) (s : State) : State :=
  if (s.demand d).kind = .opens then openByPosition d s else s

/-- R95: the end of the retry wait. -/
def retryWaitEnd (d : Door) (s : State) : State :=
  if (s.chan d).retryWait.isNone then s else retryNow d s

/-- RETRY_WAIT_EXPIRY (R95). -/
def execRetryWaitExpiry (d : Door) (s : State) : Host.Outcome State Fault Refusal :=
  act s (inRun d (retryWaitEnd d))

/-- R134: the end of the plausibility timer, which then stops. -/
def plausEnd (d : Door) (s : State) : State :=
  if (s.chan d).plaus.isNone then s
  else detectCause d (.switch .lockedWithoutClosed) (s.modChan d (fun c => { c with plaus := none }))

/-- PLAUSIBILITY_TIMER_EXPIRY (R134). -/
def execPlausibilityTimerExpiry (d : Door) (s : State) : Host.Outcome State Fault Refusal :=
  act s (inRun d (plausEnd d))

/-- R53: a phase of a flashing lamp ends. -/
def Lamp.toggle : Lamp → Lamp
  | .off => .off
  | .on => .on
  | .flashing lit => .flashing (!lit)

/-- FLASH_PHASE_EXPIRY (R53). -/
def execFlashPhaseExpiry (d : Door) (s : State) : Host.Outcome State Fault Refusal :=
  act s (fun s => s.modChan d (fun c => { c with lamp := c.lamp.toggle }))

end Sys2Proof.Machine
end

