-- ==== Sys2Proof/Machine/Table.lean ====
section
/-! DEFINITION. The events at the Hold Table that no request causes: internal placements, raises,
retirements, expiries, countdown starts, fulfilment (Chapter 1), and their commands. -/

namespace Sys2Proof.Machine

/-- R18, R41: some holds retired in one event, then the records of their scopes recomputed once. -/
def tableRetire (is : List SlotNo) (r : Reason) (own : Bool) (s : State) : State :=
  recompute (s.scopeOf is) (s.retireSlots is r own)

/-! ### Internal placements and raises (R14, R15) -/

/-- R14: the hold that an internal placement creates. -/
def Placement.newHold (q : Placement) (s : State) : Hold :=
  { handle := { epoch := s.epoch, slot := BitVec.ofNat 8 q.slot.val, generation := (s.slot q.slot).generation }
    issuer := q.issuer
    kind := (slotRole q.slot).kind
    scope := (slotRole q.slot).scope
    level := q.level
    lifetime := q.lifetime
    countdown := if q.waiting then .waiting else .running
    limit := q.limit
    rwl := false
    tag := 0#16 }

/-- R14: a hold renewed in place. A hold that was dormant takes the countdown of the placement; one in
force keeps its countdown state, with the new lifetime. -/
def Placement.renew (q : Placement) (h : Hold) : Hold :=
  { h with
    level := q.level
    lifetime := q.lifetime
    limit := q.limit
    countdown := if h.inForce then h.countdown else if q.waiting then .waiting else .running }

/-- R14: a hold put into a free slot: the last-retirement reason becomes absent, the mark clears (R3). -/
def State.fillSlot (s : State) (i : SlotNo) (h : Hold) : State :=
  s.setSlot i { s.slot i with hold := some h, lastReason := none, mark := none }

/-- R14, R25: the creation, its EGRESS notice for a handle (R112), and the recomputation. -/
def createInternal (q : Placement) (s : State) : State :=
  let s1 := s.fillSlot q.slot (s.startAtOnce (Placement.newHold q s))
  let s2 := match slotRole q.slot with
    | .hdl d => s1.raiseDoor .egress d
    | .rln _ => s1
    | .pnl _ => s1
    | .grd _ => s1
    | .pool => s1
  recompute (slotRole q.slot).scope s2

/-- R14, R25: the renewal in place and the recomputation. -/
def renewInternal (q : Placement) (h : Hold) (s : State) : State :=
  recompute h.scope (s.setHold q.slot (s.startAtOnce (Placement.renew q h)))

/-- R87: the table does not make a GRD placement for a doorway in STANDING, FAULTED or EGRESS. -/
def grdBarred (s : State) (d : Door) : Bool :=
  (s.chan d).state == .standing || (s.chan d).state == .faulted || (s.chan d).state == .egress

/-- R14: an internal placement taken at the table, in RUN only. -/
def takePlacement (q : Placement) (s : State) : State :=
  if s.mode ≠ .run then s
  else match slotRole q.slot, s.hold q.slot with
    | .pool, _ => s
    | .grd d, none => if grdBarred s d then s else createInternal q s
    | .grd d, some h => if grdBarred s d then s else renewInternal q h s
    | .hdl _, none => createInternal q s
    | .hdl _, some _ => s
    | .pnl _, none => createInternal q s
    | .pnl _, some h => renewInternal q h s
    | .rln _, none => createInternal q s
    | .rln _, some h => renewInternal q h s

/-- R15: a raise of the dormant hold in a slot. -/
def takeRaise (i : SlotNo) (s : State) : State :=
  match s.hold i with
  | none => s
  | some h =>
    if h.inForce then s
    else match slotRole i with
      | .pnl _ =>
        recompute h.scope (s.setHold i (s.startAtOnce
          { h with level := s.cfg.buttonLevel, lifetime := some s.cfg.buttonDwell, countdown := .waiting }))
      | .hdl _ => recompute h.scope (s.setHold i { h with level := 7 })
      | .rln _ => s
      | .grd _ => s
      | .pool => s

/-! ### Retirements without a request -/

/-- R107: the RLN hold and the PNL holds of a side. -/
def takeLineDropped (sd : Side) (s : State) : State :=
  tableRetire (s.slotsWhere (fun i _ => i == rlnSlot sd || (sideDoors sd).any (fun d => i == pnlSlot d)))
    .lineDropped false s

/-- R109: the PNL holds of a side. -/
def takePanelOff (sd : Side) (s : State) : State :=
  tableRetire (s.slotsWhere (fun i _ => (sideDoors sd).any (fun d => i == pnlSlot d))) .panelOff false s

/-- The holds that belong to a port's issuers (R23, R27). -/
def ofPort (p : Port) (x : Issuer) : Bool :=
  match p with
  | .t => x == .trn
  | .s => x == .atd || x == .mnt

/-- R23: the loss of a port. -/
def takeLinkLost (p : Port) (s : State) : State :=
  tableRetire (s.slotsWhere (fun _ h => ofPort p h.issuer)) .linkLost false s

/-- R8, R21: a hold whose limited countdown runs. -/
def countingDown (h : Hold) : Bool := h.countdown == .running && h.lifetime.isSome

/-- R21: an expiry. -/
def takeExpiry (i : SlotNo) (s : State) : State :=
  match s.hold i with
  | none => s
  | some h => if countingDown h then tableRetire [i] .expired false s else s

/-- R22: the slots retired by an entry into STANDING, FAULTED or EGRESS, and the reason. -/
def entrySlots (d : Door) : EntryKind → List SlotNo
  | .standing => [grdSlot d]
  | .faulted => [pnlSlot d, grdSlot d]
  | .egress => [pnlSlot d, grdSlot d]

def entryReason : EntryKind → Reason
  | .standing => .standing
  | .faulted => .faulted
  | .egress => .egress

/-- R22, R24: the entry retires, then starts the countdowns that wait for d. -/
def takeChannelEntry (d : Door) (e : EntryKind) (s : State) : State :=
  recompute (s.scopeOf (entrySlots d e))
    ((s.retireSlots (entrySlots d e) (entryReason e) false).startCountdowns d)

/-- Every doorway of a scope is proven (R26, R121; log 23). -/
def scopeProven (s : State) (sc : DoorSet) : Bool :=
  doors.all (fun d => !has sc d || (s.cluDoor d).proven)

/-- R26: a hold that carries retire-when-locked and whose whole scope is proven. -/
def fulfilled (s : State) (h : Hold) : Bool := h.rwl && scopeProven s h.scope

/-- R26: a proven event for doorway d. -/
def takeProven (d : Door) (s : State) : State :=
  tableRetire (s.slotsWhere (fun _ h => has h.scope d && fulfilled s h)) .fulfilled false s

/-! ### The commands -/

/-- INTERNAL_PLACEMENT (R14). -/
def execInternalPlacement (q : Placement) (s : State) : Host.Outcome State Fault Refusal :=
  actSent s (.internalPlacement q) (takePlacement q)

/-- RAISE (R15). -/
def execRaise (i : SlotNo) (s : State) : Host.Outcome State Fault Refusal :=
  actSent s (.raise i) (takeRaise i)

/-- LINE_DROPPED_RETIREMENT (R107). -/
def execLineDroppedRetirement (sd : Side) (s : State) : Host.Outcome State Fault Refusal :=
  actSent s (.lineDroppedRetirement sd) (takeLineDropped sd)

/-- PANEL_OFF_RETIREMENT (R109). -/
def execPanelOffRetirement (sd : Side) (s : State) : Host.Outcome State Fault Refusal :=
  actSent s (.panelOffRetirement sd) (takePanelOff sd)

/-- LINK_LOST (R23). -/
def execLinkLost (p : Port) (s : State) : Host.Outcome State Fault Refusal :=
  actSent s (.linkLost p) (takeLinkLost p)

/-- EXPIRY (R21). -/
def execExpiry (i : SlotNo) (s : State) : Host.Outcome State Fault Refusal := act s (takeExpiry i)

/-- COUNTDOWN_START (R24). -/
def execCountdownStart (d : Door) (s : State) : Host.Outcome State Fault Refusal :=
  actSent s (.countdownStart d) (fun s => s.startCountdowns d)

/-- CHANNEL_ENTRY_AT_TABLE (R22). -/
def execChannelEntryAtTable (d : Door) (e : EntryKind) (s : State) : Host.Outcome State Fault Refusal :=
  actSent s (.channelEntryAtTable d e) (takeChannelEntry d e)

/-- PROVEN_EVENT (R26). -/
def execProvenEvent (d : Door) (s : State) : Host.Outcome State Fault Refusal :=
  actSent s (.provenEvent d) (takeProven d)

end Sys2Proof.Machine
end

