-- ==== Sys2Proof/Machine/DoorRequests.lean ====
section
/-! DEFINITION. The requests at the doorways, the panels, the reports and the Notice Unit:
CLEAR_OBSTRUCTION, CLEAR_FAULT, PANEL, DOORWAY_REPORT, CAR_REPORT, PRESENCE, COLLECT_NOTICES, NOTICE_MASK
(R98, R141, R109, R151 to R158). -/

namespace Sys2Proof.Machine

/-! ### CLEAR_OBSTRUCTION (R98, R151) -/

/-- R98, STANDING: the channel acts on its current record. -/
def clearStanding (d : Door) (s : State) : State :=
  match (s.demand d).kind with
  | .opens => openByPosition d s
  | .closes => enterWarning d s
  | .isolated => enterWarning d s
  | .egress => enterEgress d s

/-- R98: one doorway cleared. -/
def clearDoor (d : Door) (s : State) : State :=
  let s1 := s.modGuard d Guard.zeroRecord
  if (s.chan d).state = .standing then clearStanding d s1
  else if (s.chan d).state = .openBlocked then
    retryNow d (s1.modChan d (fun c => { c with retryWait := none }))
  else s1

/-- R98, R151: the fitted doorways of the set, in ascending order; no event of another block falls between two
doorways of the request (DESIGN CHOICE, log 33). -/
def doClearObstruction (sc : DoorSet) (s : State) : State × Reply :=
  if sc = 0#8 then (s, .refuse .badRequest)
  else
    (doors.foldl (fun t d => if has sc d && s.fitted d then atChannel d (clearDoor d) t else t) s,
      .ok [doorSetOf (fun d => has sc d && s.fitted d)])

/-! ### CLEAR_FAULT (R141, R152) -/

/-- The outcomes of R141. -/
inductive ClearOutcome where
  | cleared | persists | notFaulted
deriving DecidableEq, Repr

/-- R141: the outcome for one doorway. -/
def clearOutcome (s : State) (d : Door) : ClearOutcome :=
  let c := s.chan d
  if c.state = .faulted ∨ (c.state = .egress ∧ c.fault.isSome) then
    if s.asserted (.bflt d) then .persists else .cleared
  else .notFaulted

/-- R141: the effect of a CLEARED outcome. -/
def clearFaultAt (d : Door) (s : State) : State :=
  let s1 := startPlaus d ((s.modChan d (fun c => { c with fault := none })).modGuard d Guard.zeroRecord)
  if (s.chan d).state = .faulted then enterUnreferenced d s1 else s1

/-- R141: one doorway of the request, with the sets so far. -/
def clearFaultDoor (d : Door) (x : State × DoorSet × DoorSet) : State × DoorSet × DoorSet :=
  match clearOutcome x.1 d with
  | .cleared => (atChannel d (clearFaultAt d) x.1, x.2.1 ||| single d, x.2.2)
  | .persists => (x.1, x.2.1, x.2.2 ||| single d)
  | .notFaulted => x

/-- R141, R152: the doorways of the set, in ascending order; no event of another block falls between two doorways
of the request (DESIGN CHOICE, log 33). -/
def doClearFault (sc : DoorSet) (s : State) : State × Reply :=
  if sc = 0#8 then (s, .refuse .badRequest)
  else
    let x := doors.foldl (fun x d => if has sc d then clearFaultDoor d x else x) (s, 0#8, 0#8)
    (x.1, { result := if x.2.2 = 0#8 then .ok else .faultPersists, payload := [x.2.1, x.2.2] })

/-! ### PANEL (R109, R153) -/

/-- A side's panel enable set or cleared. -/
def State.setPanel (s : State) (sd : Side) (on : Bool) : State :=
  match sd with
  | .left => { s with panelLeft := on }
  | .right => { s with panelRight := on }

/-- R109: one side enabled or disabled; a disable sends the side's PANEL_OFF retirement. -/
def panelTo (sd : Side) (on : Bool) (s : State) : State :=
  if on then s.setPanel sd true else (s.setPanel sd false).send (.panelOffRetirement sd)

/-- R109, R153. -/
def doPanel (side action : Byte) (s : State) : State × Reply :=
  match bitOfByte side, bitOfByte action with
  | some right, some on =>
    let s1 := panelTo (if right then .right else .left) on s
    ({ s1 with free := s.free + 1 }, .ok [enablesByte s1 s.free])
  | _, _ => (s, .refuse .badRequest)

/-! ### Reports and PRESENCE (R154 to R156) -/

/-- R154: ten free values for each doorway of the part. -/
def doDoorwayReport (sc : DoorSet) (s : State) : State × Reply :=
  if sc = 0#8 then (s, .refuse .badRequest)
  else
    ({ s with free := s.free + 80 },
      .ok ((doors.filter (has sc)).map (fun d => entryBytes s d (s.free + 10 * d.val))).flatten)

/-- R155. -/
def doCarReport (s : State) : State × Reply :=
  ({ s with free := s.free + 3 }, .ok (carBytes s s.free))

/-- R156. -/
def doPresence (s : State) : State × Reply := (s, .ok [])

/-! ### Notices (R157, R158) -/

/-- R27: the marked pool slots of a port, in ascending order. -/
def markedSlots (s : State) (p : Port) : List SlotNo :=
  poolSlots.filter (fun i => match (s.slot i).mark with
    | some x => ofPort p x
    | none => false)

/-- R27: the entry of a marked slot: the retired handle and the reason. -/
def markedBytes (s : State) (i : SlotNo) : List Byte :=
  handleBytes { epoch := s.epoch, slot := BitVec.ofNat 8 i.val, generation := (s.slot i).generation - 1#8 } ++
  [reasonByte (s.slot i).lastReason]

/-- R27: the listed marks cleared. -/
def State.clearMarks (s : State) (is : List SlotNo) : State :=
  is.foldl (fun s i => s.setSlot i { s.slot i with mark := none }) s

/-- R157: the payload of a collection. -/
def noticeBytes (s : State) (p : Port) : List Byte :=
  [(s.port p).kinds, (s.port p).standing, (s.port p).fault, (s.port p).egress,
   BitVec.ofNat 8 (markedSlots s p).length] ++ ((markedSlots s p).map (markedBytes s)).flatten

/-- R157. -/
def doCollectNotices (p : Port) (s : State) : State × Reply :=
  ((s.clearMarks (markedSlots s p)).modPort p
    (fun x => { x with kinds := 0#8, standing := 0#8, fault := 0#8, egress := 0#8 }),
    .ok (noticeBytes s p))

/-- R158. -/
def doNoticeMask (p : Port) (kinds : KindSet) (s : State) : State × Reply :=
  (s.modPort p (fun x => { x with mask := kinds }), .ok [kinds])

end Sys2Proof.Machine
end

