-- ==== Sys2Proof/Machine/HoldRequests.lean ====
section
/-! DEFINITION. The requests at the Hold Table: PLACE, AMEND, RENEW, RETIRE, WITHDRAW, LOOKUP, SURVEY
(Chapter 1, R148 to R150). The common checks of R145 stand in Machine/Link.lean. -/

namespace Sys2Proof.Machine

/-- A request refused without effect. -/
def refused (s : State) (r : Result) : State × Reply := (s, Reply.refuse r)

/-! ### The optional parts (R9) -/

/-- Every doorway of a scope is fitted. -/
def allFitted (s : State) (sc : DoorSet) : Bool := doors.all (fun d => !has sc d || s.fitted d)

/-- R9: the limit lies from PLUG_POINT + 1 to OPEN_END of every doorway of the scope. -/
def limitFits (s : State) (sc : DoorSet) (l : Nat) : Bool :=
  doors.all (fun d => !has sc d ||
    (decide (s.cfg.plugPoint d + 1 ≤ l) && decide (l ≤ s.cfg.openEnd d)))

/-- R9: the optional parts of a hold of this kind and scope. -/
def obeysR9 (s : State) (k : HoldKind) (sc : DoorSet) (waiting : Bool) (limit : Option Nat) (rwl : Bool) :
    Bool :=
  (!waiting || (k == .opens && isSingle sc)) &&
  (match limit with
    | none => true
    | some l => k == .opens && limitFits s sc l) &&
  (!rwl || k == .closes || k == .isolate)

/-- R26: a hold just placed or amended that is already fulfilled is retired. The records of its scope are
recomputed afterwards, once (R41). -/
def examine (i : SlotNo) (s : State) : State :=
  match s.hold i with
  | none => s
  | some h => if fulfilled s h then s.retireSlot i .fulfilled false else s

/-! ### PLACE (R13, R148) -/

/-- The parameters of a placement whose values are all in range. -/
structure PlaceAsked where
  kind : HoldKind
  scope : DoorSet
  level : HoldLevel
  waiting : Bool
  rwl : Bool
  lifetime : Option Nat
  limit : Option Nat
  tag : Half
deriving DecidableEq, Repr

/-- R13 check 2: every parameter in range. -/
def placeAsked (q : PlaceParams) : Option PlaceAsked :=
  match kindOfByte q.kind, levelOfByte q.level, lifetimeOfHalf q.lifetime, limitOfHalf q.openLimit with
  | some k, some l, some t, some m =>
    if q.scope = 0#8 then none
    else some { kind := k, scope := q.scope, level := l, waiting := q.options.getLsbD 0
                rwl := q.options.getLsbD 1, lifetime := t, limit := m, tag := q.tag }
  | _, _, _, _ => none

/-- R13: the hold that a passing placement creates in slot i. -/
def PlaceAsked.newHold (a : PlaceAsked) (x : Issuer) (i : SlotNo) (s : State) : Hold :=
  { handle := { epoch := s.epoch, slot := BitVec.ofNat 8 i.val, generation := (s.slot i).generation }
    issuer := x, kind := a.kind, scope := a.scope, level := a.level, lifetime := a.lifetime
    countdown := if a.waiting then .waiting else .running
    limit := a.limit, rwl := a.rwl, tag := a.tag }

/-- R13, R26, R41: a passing placement in slot i, and the records recomputed from the table that it leaves. -/
def placeIn (a : PlaceAsked) (x : Issuer) (i : SlotNo) (s : State) : State × Reply :=
  let h := a.newHold x i s
  (recompute a.scope (examine i (s.fillSlot i (s.startAtOnce h))), .ok (handleBytes h.handle))

/-- R13, checks 2 to 7 in their order. -/
def doPlace (x : Issuer) (q : PlaceParams) (s : State) : State × Reply :=
  match placeAsked q with
  | none => refused s .badRequest
  | some a =>
    if !mayPlace x a.kind then refused s .notPermitted
    else if levelCap x < a.level.val then refused s .levelDenied
    else if !(allFitted s a.scope && obeysR9 s a.kind a.scope a.waiting a.limit a.rwl)
    then refused s .badRequest
    else if quotaOf x ≤ s.liveCount x then refused s .quota
    else match s.lowestFree with
      | none => refused s .tableFull
      | some i => placeIn a x i s

/-! ### Requests that name a hold -/

/-- Check 3 of R16, R17 and R19: the handle resolves LIVE, or the request is refused. -/
def onLive (hd : Handle) (s : State) (f : SlotNo → Hold → State × Reply) : State × Reply :=
  match s.resolveHandle hd with
  | .live i h => f i h
  | .retired r => (s, { result := .retired, payload := [reasonCode r] })
  | .stale => refused s .stale

/-- The fields an AMEND gives, all in range (R16 check 2); a field not given is `none`. -/
structure AmendAsked where
  level : Option HoldLevel
  scope : Option DoorSet
  limit : Option (Option Nat)
  rwl : Option Bool
  tag : Option Half
deriving DecidableEq, Repr

/-- One given field: absent when not marked, out of range when it does not decode. -/
def givenField {α : Type} (marked : Bool) (v : Option α) : Option (Option α) :=
  if marked then v.map some else some none

/-- R16 check 2, R149. -/
def amendAsked (q : AmendParams) : Option AmendAsked :=
  match givenField (q.marks.getLsbD 0) (levelOfByte q.level),
        givenField (q.marks.getLsbD 1) (if q.scope = 0#8 then none else some q.scope),
        givenField (q.marks.getLsbD 2) (limitOfHalf q.openLimit),
        givenField (q.marks.getLsbD 3) (bitOfByte q.rwl) with
  | some l, some sc, some m, some r =>
    some { level := l, scope := sc, limit := m, rwl := r
           tag := if q.marks.getLsbD 4 then some q.tag else none }
  | _, _, _, _ => none

/-- R16: the hold as amended. -/
def AmendAsked.applied (a : AmendAsked) (h : Hold) : Hold :=
  { h with
    level := a.level.getD h.level
    scope := a.scope.getD h.scope
    limit := a.limit.getD h.limit
    rwl := a.rwl.getD h.rwl
    tag := a.tag.getD h.tag }

/-- R16, R25, R26, R41: an amendment applied; a WAITING hold given a scope may start at once. The records of
both scopes are recomputed from the table that the amendment leaves. -/
def amendIn (a : AmendAsked) (i : SlotNo) (h : Hold) (s : State) : State :=
  let h1 := a.applied h
  let h2 := if a.scope.isSome then s.startAtOnce h1 else h1
  recompute (h.scope ||| h1.scope) (examine i (s.setHold i h2))

/-- R16, checks 2 to 6 in their order. -/
def doAmend (x : Issuer) (q : AmendParams) (s : State) : State × Reply :=
  match amendAsked q with
  | none => refused s .badRequest
  | some a =>
    onLive q.handle s (fun i h =>
      let h1 := a.applied h
      if h.issuer ≠ x then refused s .notPermitted
      else if levelCap x < (a.level.getD 0).val then refused s .levelDenied
      else if !(allFitted s h1.scope &&
        obeysR9 s h1.kind h1.scope (h1.countdown == .waiting) h1.limit h1.rwl)
      then refused s .badRequest
      else (amendIn a i h s, .ok []))

/-- R17, R41: checks 2 to 4 of R16, then the new lifetime; a RUNNING countdown restarts from it, a WAITING one
waits with it. The hold's scope is recomputed. -/
def doRenew (x : Issuer) (hd : Handle) (lifetime : Half) (s : State) : State × Reply :=
  match lifetimeOfHalf lifetime with
  | none => refused s .badRequest
  | some t =>
    onLive hd s (fun i h =>
      if h.issuer ≠ x then refused s .notPermitted
      else (recompute h.scope (s.setHold i { h with lifetime := t }), .ok []))

/-- R12, R19 check 5: the handle line of an HDL hold is asserted. -/
def handleActive (s : State) (i : SlotNo) (h : Hold) : Bool :=
  h.issuer == .hdl && (match slotRole i with
    | .hdl d => s.asserted (.hdl d)
    | .rln _ => false
    | .pnl _ => false
    | .grd _ => false
    | .pool => false)

/-- R19, checks 3 to 5 in their order. -/
def doRetire (x : Issuer) (hd : Handle) (s : State) : State × Reply :=
  onLive hd s (fun i h =>
    if !mayRetire h.issuer x then refused s .notPermitted
    else if handleActive s i h then refused s .handleActive
    else (tableRetire [i] .requested (h.issuer == x) s, .ok []))

/-- R20: the holds of an issuer, of one kind if a kind is given. -/
def withdrawn (s : State) (x : Issuer) (k : Option HoldKind) : List SlotNo :=
  s.slotsWhere (fun _ h => h.issuer == x && (match k with
    | none => true
    | some k => h.kind == k))

/-- R20. -/
def doWithdraw (x : Issuer) (kind : Byte) (s : State) : State × Reply :=
  match filterOf kindOfByte kind with
  | none => refused s .badRequest
  | some k =>
    (tableRetire (withdrawn s x k) .requested true s, .ok [BitVec.ofNat 8 (withdrawn s x k).length])

/-! ### LOOKUP and SURVEY (R28, R29, R150) -/

/-- R28: the payload of a LOOKUP. -/
def lookupBytes (r : Resolution) (n : Nat) : List Byte :=
  match r with
  | .live _ h => 0#8 :: holdBytes h n
  | .retired r => [1#8, reasonCode r]
  | .stale => [2#8]

/-- R28, R150. -/
def doLookup (hd : Handle) (s : State) : State × Reply :=
  ({ s with free := s.free + 1 }, .ok (lookupBytes (s.resolveHandle hd) s.free))

/-- R29: the occupied slots from a starting slot whose hold passes the filters. -/
def surveyed (s : State) (start : Nat) (x : Option Issuer) (k : Option HoldKind) : List (SlotNo × Hold) :=
  (slotNos.filterMap (fun i => (s.hold i).map (fun h => (i, h)))).filter (fun e =>
    decide (start ≤ e.1.val) &&
    (match x with
      | none => true
      | some x => e.2.issuer == x) &&
    (match k with
      | none => true
      | some k => e.2.kind == k))

/-- R29: the next slot after the eighth hold, else 64. -/
def nextSlot (found : List (SlotNo × Hold)) : Nat :=
  match found[7]? with
  | some e => e.1.val + 1
  | none => 64

/-- R29, R150. -/
def doSurvey (start issuer kind : Byte) (s : State) : State × Reply :=
  match filterOf issuerOfByte issuer, filterOf kindOfByte kind with
  | some x, some k =>
    if 63 < start.toNat then refused s .badRequest
    else
      let found := surveyed s start.toNat x k
      let listed := found.take 8
      ({ s with free := s.free + 8 },
        .ok ([BitVec.ofNat 8 listed.length] ++
          (listed.zipIdx.map (fun e => holdBytes e.1.2 (s.free + e.2))).flatten ++
          [BitVec.ofNat 8 (nextSlot found)]))
  | _, _ => refused s .badRequest

end Sys2Proof.Machine
end

