-- ==== Sys2Proof/Machine/Link.lean ====
section
/-! DEFINITION. The Car Link (Chapter 9) and the execution of requests (R144 to R147): characters, message
assembly, intake, answers and supervision, with their commands. -/

namespace Sys2Proof.Machine

/-! ### Execution (R145, R147, R169) -/

/-- A body answered at once. -/
def answered (x : State × Reply) : State × ReplyForm := (x.1, .now x.2)

/-- R147: a request that has passed the common checks is carried out under its issuer. -/
def perform (k : RequestKind) (p : Port) (x : Issuer) (b : List Byte) (s : State) : State × ReplyForm :=
  match k with
  | .presence => answered (doPresence s)
  | .place => answered (doPlace x (placeOf b) s)
  | .amend => answered (doAmend x (amendOf b) s)
  | .renew => answered (doRenew x (handleAt b 0) (halfAt b 3) s)
  | .retire => answered (doRetire x (handleAt b 0) s)
  | .withdraw => answered (doWithdraw x (paramAt b 0) s)
  | .lookup => answered (doLookup (handleAt b 0) s)
  | .survey => answered (doSurvey (paramAt b 0) (paramAt b 1) (paramAt b 2) s)
  | .doorwayReport => answered (doDoorwayReport (paramAt b 0) s)
  | .carReport => answered (doCarReport s)
  | .clearObstruction => answered (doClearObstruction (paramAt b 0) s)
  | .clearFault => answered (doClearFault (paramAt b 0) s)
  | .panel => answered (doPanel (paramAt b 0) (paramAt b 1) s)
  | .collectNotices => answered (doCollectNotices p s)
  | .noticeMask => answered (doNoticeMask p (paramAt b 0) s)
  | .configRead => answered (doConfigRead (halfAt b 0) (paramAt b 2) s)
  | .configWrite => answered (doConfigWrite (halfAt b 0) (b.drop 3) s)
  | .configStore => (doConfigStore s, .atStore)
  | .startRun => answered (doStartRun s)
  | .restart => (s, .thenRestart)

/-- R145: the four common checks in their order, then the request. -/
def checked (p : Port) (kind : Byte) (b : List Byte) (s : State) : State × ReplyForm :=
  match RequestKind.ofCode kind with
  | none => answered (refused s .badRequest)
  | some k =>
    if !k.sentBy (s.issuerOf p) then answered (refused s .notPermitted)
    else if !k.allowedIn s.mode then answered (refused s .mode)
    else if !formOk k b then answered (refused s .badRequest)
    else perform k p (s.issuerOf p) b s

/-- R169: the answer formed as the request's form asks. -/
def reply (p : Port) (kind seq : Byte) (x : State × ReplyForm) : State :=
  match x.2 with
  | .now r => x.1.formAnswer p kind seq r false
  | .atStore => x.1.modPort p (fun y => { y with slot := .reserved seq })
  | .thenRestart => x.1.formAnswer p kind seq (.ok []) true

/-- R170: a loss of this port that the Hold Table has not yet taken is taken before a later request of the
port (log 20). -/
def settleLoss (p : Port) (s : State) : State :=
  if s.sent.contains (.linkLost p) then
    takeLinkLost p { s with sent := s.sent.filter (fun e => e != .linkLost p) }
  else s

/-- R168, R169: the execution of a message. -/
def execute (p : Port) (m : Message) (s : State) : State :=
  if m.error then s.formAnswer p m.kind m.seq (.refuse .lineError) false
  else reply p m.kind m.seq (checked p m.kind m.params (settleLoss p s))

/-! ### Intake (R166, R170) -/

/-- R170: a good request at a port. -/
def goodRequest (p : Port) (s : State) : State :=
  if s.cfg.supTime p = 0 then s
  else s.modPort p (fun x => { x with sup := .active, supTimer := some (s.cfg.supTime p) })

/-- Table 9-1: the buffering path. -/
def takeMessage (p : Port) (m : Message) (s : State) : State :=
  match (s.port p).slot, (s.port p).buffer with
  | .free, _ => execute p m s
  | .reserved _, none => s.modPort p (fun x => { x with buffer := some m })
  | .sending _ _, none => s.modPort p (fun x => { x with buffer := some m })
  | .reserved _, some _ => s.modPort p (fun x => { x with overrun := true })
  | .sending _ _, some _ => s.modPort p (fun x => { x with overrun := true })

/-- A good request of a kind taken at a port: its supervision, then the buffering path. -/
def takeRequest (p : Port) (kind seq : Byte) (b : List Byte) (s : State) : State :=
  takeMessage p { error := false, kind := kind, seq := seq, params := b } (goodRequest p s)

/-- R166: a complete message, damaged or not. -/
def intake (p : Port) (damaged : Bool) (body : List Byte) (s : State) : State :=
  if !damaged then takeRequest p (paramAt body 0) (paramAt body 1) (body.drop 2) s
  else if s.cfg.nakOnError p then
    takeMessage p { error := true, kind := paramAt body 0, seq := paramAt body 1, params := body.drop 2 } s
  else s

/-! ### Message assembly (R164) -/

/-- A message at its start character. -/
def Assembly.start : Assembly := { len := none, body := [], crc := 0#8, damage := false }

/-- The body is complete: the next character is the CRC character. -/
def Assembly.bodyComplete (a : Assembly) : Bool :=
  match a.len with
  | none => false
  | some n => decide (n ≤ a.body.length)

def State.setRx (s : State) (p : Port) (rx : Option Assembly) : State := s.modPort p (fun x => { x with rx := rx })

/-- R163: after a break the receiver waits for the line to return high; any other character ends with its line
high, and a character that arrives found the line high before it (log 36). -/
def State.hear (s : State) (p : Port) (ch : RxChar) : State :=
  s.modPort p (fun x => { x with awaitHigh := isBreak x.line ch })

/-- R163, R164: the receiver after a whole, undamaged message: it hunts, and its line is high. -/
def State.heardWhole (s : State) (p : Port) : State :=
  s.modPort p (fun x => { x with rx := none, awaitHigh := false })

/-- R164: a character taken while hunting. -/
def huntChar (p : Port) (err : Bool) (c : Byte) (s : State) : State :=
  if c = 0xA5#8 ∧ ¬ err then s.setRx p (some .start) else s

/-- R164: the LEN character. -/
def lenChar (p : Port) (err : Bool) (c : Byte) (s : State) : State :=
  if 2 ≤ c.toNat ∧ c.toNat ≤ 32 then
    s.setRx p (some { len := some c.toNat, body := [], crc := crcByte 0#8 c, damage := err })
  else s.setRx p none

/-- R164: a body character. -/
def bodyChar (p : Port) (err : Bool) (c : Byte) (a : Assembly) (s : State) : State :=
  s.setRx p (some { a with body := a.body ++ [c], crc := crcByte a.crc c, damage := a.damage || err })

/-- R164, R165: the CRC character completes the message. -/
def crcChar (p : Port) (err : Bool) (c : Byte) (a : Assembly) (s : State) : State :=
  intake p (a.damage || err || c != a.crc) a.body (s.setRx p none)

/-- R164: a character put to the assembly of a port. -/
def assemble (p : Port) (ch : RxChar) (s : State) : State :=
  let err := charError (s.port p).line ch
  match (s.port p).rx with
  | none => huntChar p err ch.data s
  | some a =>
    match a.len with
    | none => lenChar p err ch.data s
    | some _ => if a.bodyComplete then crcChar p err ch.data a s else bodyChar p err ch.data a s

/-- R163, R164: a character at the receiver of a port. -/
def takeChar (p : Port) (ch : RxChar) (s : State) : State := assemble p ch (s.hear p ch)

/-- CHARACTER_RECEIVED (R163). -/
def execCharacterReceived (p : Port) (ch : RxChar) (s : State) : Host.Outcome State Fault Refusal :=
  act s (takeChar p ch)

/-- MESSAGE_COMPLETION (R166): the CRC character, where the body is complete (log 8). -/
def completeMessage (p : Port) (ch : RxChar) (s : State) : State :=
  match (s.port p).rx with
  | none => s
  | some a => if a.bodyComplete then crcChar p (charError (s.port p).line ch) ch.data a (s.hear p ch) else s

def execMessageCompletion (p : Port) (ch : RxChar) (s : State) : Host.Outcome State Fault Refusal :=
  act s (completeMessage p ch)

/-- MESSAGE_ABANDONED (R164): a gap of more than 4 character times. -/
def execMessageAbandoned (p : Port) (s : State) : Host.Outcome State Fault Refusal :=
  act s (fun s => s.setRx p none)

/-! ### The end of an answer (R167, R162), the end of a store (R160, R177) -/

/-- R167: the slot becomes FREE and a buffered message is executed. -/
def endAnswer (p : Port) (s : State) : State :=
  let s1 := s.modPort p (fun x => { x with slot := .free, buffer := none })
  match (s.port p).buffer with
  | none => s1
  | some m => execute p m s1

/-- R167: the last character of the answer that a port sends, if it sends one. -/
def takeAnswerSent (p : Port) (s : State) : State :=
  match (s.port p).slot with
  | .free => s
  | .reserved _ => s
  | .sending _ _ => endAnswer p s

/-- R162: the port is sending the answer of a RESTART. -/
def State.restartDue (s : State) (p : Port) : Bool :=
  match (s.port p).slot with
  | .free => false
  | .reserved _ => false
  | .sending _ restart => restart

/-- ANSWER_SENT (R167); a RESTART answer ends in a start (R162). -/
def execAnswerSent (p : Port) (s : State) : Host.Outcome State Fault Refusal :=
  if s.running && s.restartDue p then .next (startPart .restart s) else act s (takeAnswerSent p)

/-- STORE_COMPLETION (R177): the stored image holds the new bytes, and the answer owed on Port S is formed. -/
def takeStoreCompletion (s : State) : State :=
  match s.store with
  | none => s
  | some im =>
    let s1 := { s with store := none, stored := im }
    match s1.portS.slot with
    | .reserved seq => s1.formAnswer .s RequestKind.configStore.code seq (.ok [im.crc]) false
    | .free => s1
    | .sending _ _ => s1

def execStoreCompletion (s : State) : Host.Outcome State Fault Refusal := act s takeStoreCompletion

/-! ### Supervision (R170) -/

/-- R170: the timer runs out in ACTIVE. -/
def supIntervalEnd (p : Port) (s : State) : State :=
  if (s.port p).sup = .active then
    (s.modPort p (fun x => { x with sup := .silent, supTimer := some (s.cfg.supGrace p) })).raiseOn
      (otherPort p) .peer
  else s

/-- SUPERVISION_INTERVAL_EXPIRY (R170). -/
def execSupervisionIntervalExpiry (p : Port) (s : State) : Host.Outcome State Fault Refusal :=
  act s (supIntervalEnd p)

/-- R170: the timer runs out in SILENT. -/
def supGraceEnd (p : Port) (s : State) : State :=
  if (s.port p).sup = .silent then
    ((s.modPort p (fun x => { x with sup := .lost, supTimer := none })).send (.linkLost p)).raiseOn
      (otherPort p) .peer
  else s

/-- SUPERVISION_GRACE_EXPIRY (R170). -/
def execSupervisionGraceExpiry (p : Port) (s : State) : Host.Outcome State Fault Refusal :=
  act s (supGraceEnd p)

/-! ### The request commands (log 5) -/

/-- A complete, undamaged request arrives at a port (log 5): its frame admits 32 body characters (R164), and
the receiver hunts after it. -/
def arrive (k : RequestKind) (p : Port) (seq : Byte) (b : List Byte) (s : State) :
    Host.Outcome State Fault Refusal :=
  act s (fun s => if b.length ≤ 30 then takeRequest p k.code seq b (s.heardWhole p) else s)

/-- PRESENCE (R156). -/
def execPresence (p : Port) (seq : Byte) (s : State) : Host.Outcome State Fault Refusal :=
  arrive .presence p seq [] s

/-- PLACE (R13). -/
def execPlace (p : Port) (seq : Byte) (q : PlaceParams) (s : State) : Host.Outcome State Fault Refusal :=
  arrive .place p seq (placeBytes q) s

/-- AMEND (R16). -/
def execAmend (p : Port) (seq : Byte) (q : AmendParams) (s : State) : Host.Outcome State Fault Refusal :=
  arrive .amend p seq (amendBytes q) s

/-- RENEW (R17). -/
def execRenew (p : Port) (seq : Byte) (h : Handle) (lifetime : Half) (s : State) :
    Host.Outcome State Fault Refusal :=
  arrive .renew p seq (renewBytes h lifetime) s

/-- RETIRE (R19). -/
def execRetire (p : Port) (seq : Byte) (h : Handle) (s : State) : Host.Outcome State Fault Refusal :=
  arrive .retire p seq (handleBytes h) s

/-- WITHDRAW (R20). -/
def execWithdraw (p : Port) (seq : Byte) (kind : Byte) (s : State) : Host.Outcome State Fault Refusal :=
  arrive .withdraw p seq [kind] s

/-- LOOKUP (R28). -/
def execLookup (p : Port) (seq : Byte) (h : Handle) (s : State) : Host.Outcome State Fault Refusal :=
  arrive .lookup p seq (handleBytes h) s

/-- SURVEY (R29). -/
def execSurvey (p : Port) (seq start issuer kind : Byte) (s : State) : Host.Outcome State Fault Refusal :=
  arrive .survey p seq [start, issuer, kind] s

/-- DOORWAY_REPORT (R154). -/
def execDoorwayReport (p : Port) (seq : Byte) (sc : DoorSet) (s : State) : Host.Outcome State Fault Refusal :=
  arrive .doorwayReport p seq [sc] s

/-- CAR_REPORT (R155). -/
def execCarReport (p : Port) (seq : Byte) (s : State) : Host.Outcome State Fault Refusal :=
  arrive .carReport p seq [] s

/-- CLEAR_OBSTRUCTION (R98). -/
def execClearObstruction (p : Port) (seq : Byte) (sc : DoorSet) (s : State) :
    Host.Outcome State Fault Refusal :=
  arrive .clearObstruction p seq [sc] s

/-- CLEAR_FAULT (R141). -/
def execClearFault (p : Port) (seq : Byte) (sc : DoorSet) (s : State) : Host.Outcome State Fault Refusal :=
  arrive .clearFault p seq [sc] s

/-- PANEL (R109). -/
def execPanel (p : Port) (seq side action : Byte) (s : State) : Host.Outcome State Fault Refusal :=
  arrive .panel p seq [side, action] s

/-- COLLECT_NOTICES (R157). -/
def execCollectNotices (p : Port) (seq : Byte) (s : State) : Host.Outcome State Fault Refusal :=
  arrive .collectNotices p seq [] s

/-- NOTICE_MASK (R158). -/
def execNoticeMask (p : Port) (seq : Byte) (kinds : KindSet) (s : State) : Host.Outcome State Fault Refusal :=
  arrive .noticeMask p seq [kinds] s

/-- CONFIG_READ (R159). -/
def execConfigRead (p : Port) (seq : Byte) (offset : Half) (count : Byte) (s : State) :
    Host.Outcome State Fault Refusal :=
  arrive .configRead p seq (configReadBytes offset count) s

/-- CONFIG_WRITE (R159). -/
def execConfigWrite (p : Port) (seq : Byte) (offset : Half) (data : List Byte) (s : State) :
    Host.Outcome State Fault Refusal :=
  arrive .configWrite p seq (configWriteBytes offset data) s

/-- CONFIG_STORE (R160). -/
def execConfigStore (p : Port) (seq : Byte) (s : State) : Host.Outcome State Fault Refusal :=
  arrive .configStore p seq [] s

/-- START_RUN (R161). -/
def execStartRun (p : Port) (seq : Byte) (s : State) : Host.Outcome State Fault Refusal :=
  arrive .startRun p seq [] s

/-- RESTART (R162). -/
def execRestart (p : Port) (seq : Byte) (s : State) : Host.Outcome State Fault Refusal :=
  arrive .restart p seq [] s

end Sys2Proof.Machine
end

