-- ==== Sys2Proof/Machine/Loop.lean ====
section
/-! DEFINITION. The Car Loop Unit (Chapter 6): proven flags, proving, the car loop, the moving-unproven
indication, and their commands. -/

namespace Sys2Proof.Machine

/-- R121: the proven flag that a doorway's copies give. -/
def provenBy (s : State) (d : Door) (x : CluDoor) : Bool :=
  s.fitted d && s.isActive .switch x.cls && s.isActive .switch x.lks &&
  (x.chState == .locked || x.chState == .faulted)

/-- R124: every fitted doorway is proven. -/
def State.allProven (s : State) : Bool := doors.all (fun d => !s.fitted d || (s.cluDoor d).proven)

/-- R125: the loop output changes, with its LOOP notice. -/
def setLoop (on : Bool) (s : State) : State :=
  if s.clu.loop = on then s else ({ s with clu := { s.clu with loop := on } }).raiseBoth .loop

/-- R124: the proving stage follows the flags, in RUN, which for this unit is the mode (DESIGN CHOICE, log 43). -/
def updateStage (s : State) : State :=
  if s.mode ≠ .run then s
  else if s.allProven then
    if s.clu.stage = .unproven then
      { s with clu := { s.clu with stage := .proving, timer := some s.cfg.proveTime } }
    else s
  else
    setLoop false { s with clu := { s.clu with stage := .unproven, timer := none } }

/-- R121, R122, R124: a doorway's copies as an event leaves them; the flag is re-evaluated, a flag that sets
sends its proven event, and the stage follows. -/
def takeCopies (d : Door) (x : CluDoor) (s : State) : State :=
  let flag := provenBy s d x
  let s1 := s.setCluDoor d { x with proven := flag }
  updateStage (if flag && !(s.cluDoor d).proven then s1.send (.provenEvent d) else s1)

/-- The copy of a switch level (R121). -/
def CluDoor.withSwitch (x : CluDoor) (sw : Switch) (lv : Level) : CluDoor :=
  match sw with
  | .closed => { x with cls := lv }
  | .locked => { x with lks := lv }

/-- PROVEN_FLAG_UPDATE (R121): a switch acceptance taken at the unit. -/
def execProvenFlagUpdate (d : Door) (sw : Switch) (lv : Level) (s : State) :
    Host.Outcome State Fault Refusal :=
  actSent s (.provenFlagUpdate d sw lv) (fun s => takeCopies d ((s.cluDoor d).withSwitch sw lv) s)

/-- CHANNEL_STATE_AT_CLU (R121): a channel state change taken at the unit. -/
def execChannelStateAtClu (d : Door) (st : ChState) (s : State) : Host.Outcome State Fault Refusal :=
  actSent s (.channelStateAtClu d st) (fun s => takeCopies d { s.cluDoor d with chState := st } s)

/-- R126: a ZSPD acceptance taken at the unit, in RUN from the change of mode on (DESIGN CHOICE, log 43). -/
def takeZspd (lv : Level) (s : State) : State :=
  let s1 := { s with clu := { s.clu with zspd := lv } }
  if s.mode ≠ .run then s1
  else if s.isActive .release lv then { s1 with clu := { s1.clu with movingUnproven := false } }
  else if s.clu.loop then s1
  else { s1 with clu := { s1.clu with movingUnproven := true } }

/-- ZSPD_AT_CLU (R126). -/
def execZspdAtClu (lv : Level) (s : State) : Host.Outcome State Fault Refusal :=
  actSent s (.zspdAtClu lv) (takeZspd lv)

/-- R124, R125: the proving timer runs out. -/
def provingEnd (s : State) : State :=
  if s.clu.stage = .proving then
    setLoop true { s with clu := { s.clu with stage := .proven, timer := none } }
  else s

/-- PROVING_TIMER_EXPIRY (R124). -/
def execProvingTimerExpiry (s : State) : Host.Outcome State Fault Refusal := act s provingEnd

end Sys2Proof.Machine
end

