-- ==== Sys2Proof/Machine/Sensing.lean ====
section
/-! DEFINITION. The events at a guard section from its lines and its own timers (Chapter 4), and their
commands. -/

namespace Sys2Proof.Machine

/-- R63, R81: an edge assertion in WARNING restarts the interval from its full chosen value. The timer runs
on for the value chosen at the entry; how long it had run is not state (log 9). -/
def restartWarning (d : Door) (s : State) : State :=
  s.modChan d (fun c => { c with warn := c.warn.map (fun chosen => chosen) })

/-- R81: EDGEd asserted, taken at the guard. -/
def edgeAsserted (d : Door) (s : State) : State :=
  if edgeWatched s.cfg d (s.chan d) then closingDetection d .edge s
  else if (s.chan d).state = .warning then restartWarning d s
  else s

/-- EDGE_ACCEPTED_AT_GUARD (R81). A deassertion has no effect. -/
def execEdgeAcceptedAtGuard (d : Door) (lv : Level) (s : State) : Host.Outcome State Fault Refusal :=
  actSent s (.edgeAcceptedAtGuard d lv)
    (inRun d (fun s => if s.isActive .edge lv then edgeAsserted d s else s))

/-- R82: FRCd asserted, taken at the guard: a detection once blanking is complete. -/
def forceAsserted (d : Door) (s : State) : State :=
  if isMotionState (s.chan d).state ∧ s.cfg.blankSteps d ≤ (s.guard d).blank then forceDetection d s else s

/-- FRC_ACCEPTED_AT_GUARD (R82). A release has no effect. -/
def execFrcAcceptedAtGuard (d : Door) (lv : Level) (s : State) : Host.Outcome State Fault Refusal :=
  actSent s (.frcAcceptedAtGuard d lv)
    (inRun d (fun s => if s.isActive .drive lv then forceAsserted d s else s))

/-- R83, R88: the stall interval runs out with no step. -/
def stallIntervalEnd (d : Door) (s : State) : State :=
  match (s.guard d).stage with
  | .normal =>
    (s.modChan d (fun c => { c with drive := c.drive.boosted (s.cfg.boost d) })).modGuard d
      (fun g => { g with stage := .warn, stallTimer := some (s.cfg.stallGrace d) })
  | .single => endRelief d s
  | .idle => s
  | .warn => s

/-- STALL_INTERVAL_EXPIRY (R83). -/
def execStallIntervalExpiry (d : Door) (s : State) : Host.Outcome State Fault Refusal :=
  act s (inRun d (stallIntervalEnd d))

/-- R84: a stall detection. -/
def stallDetection (d : Door) (s : State) : State :=
  if isOpeningState (s.chan d).state then
    match (s.demand d).target with
    | some t =>
      if t ≤ (s.chan d).position.val + s.cfg.endWindow d then enterOpen d s else openingObstruction d s
    | none => openingObstruction d s
  else closingDetection d .stall s

/-- R83, R84: the stall grace runs out with no step. -/
def stallGraceEnd (d : Door) (s : State) : State :=
  if (s.guard d).stage = .warn then stallDetection d s else s

/-- STALL_GRACE_EXPIRY (R84). -/
def execStallGraceExpiry (d : Door) (s : State) : Host.Outcome State Fault Refusal :=
  act s (inRun d (stallGraceEnd d))

end Sys2Proof.Machine
end

