-- ==== Sys2Proof/Machine/Dispatch.lean ====
section
/-! DEFINITION. The command dispatch: one arm per constructor of Instr, each one direct call of a meaning. -/

namespace Sys2Proof.Machine

def exec (i : Instr) (s : State) : Host.Outcome State Fault Refusal :=
  match i with
  | .presence p seq => Sys2Proof.Machine.execPresence p seq s
  | .place p seq q => Sys2Proof.Machine.execPlace p seq q s
  | .amend p seq q => Sys2Proof.Machine.execAmend p seq q s
  | .renew p seq h lifetime => Sys2Proof.Machine.execRenew p seq h lifetime s
  | .retire p seq h => Sys2Proof.Machine.execRetire p seq h s
  | .withdraw p seq kind => Sys2Proof.Machine.execWithdraw p seq kind s
  | .lookup p seq h => Sys2Proof.Machine.execLookup p seq h s
  | .survey p seq start issuer kind => Sys2Proof.Machine.execSurvey p seq start issuer kind s
  | .doorwayReport p seq doors => Sys2Proof.Machine.execDoorwayReport p seq doors s
  | .carReport p seq => Sys2Proof.Machine.execCarReport p seq s
  | .clearObstruction p seq doors => Sys2Proof.Machine.execClearObstruction p seq doors s
  | .clearFault p seq doors => Sys2Proof.Machine.execClearFault p seq doors s
  | .panel p seq side action => Sys2Proof.Machine.execPanel p seq side action s
  | .collectNotices p seq => Sys2Proof.Machine.execCollectNotices p seq s
  | .noticeMask p seq kinds => Sys2Proof.Machine.execNoticeMask p seq kinds s
  | .configRead p seq offset count => Sys2Proof.Machine.execConfigRead p seq offset count s
  | .configWrite p seq offset data => Sys2Proof.Machine.execConfigWrite p seq offset data s
  | .configStore p seq => Sys2Proof.Machine.execConfigStore p seq s
  | .startRun p seq => Sys2Proof.Machine.execStartRun p seq s
  | .restart p seq => Sys2Proof.Machine.execRestart p seq s
  | .storeCompletion => Sys2Proof.Machine.execStoreCompletion s
  | .messageCompletion p ch => Sys2Proof.Machine.execMessageCompletion p ch s
  | .messageAbandoned p => Sys2Proof.Machine.execMessageAbandoned p s
  | .answerSent p => Sys2Proof.Machine.execAnswerSent p s
  | .supervisionIntervalExpiry p => Sys2Proof.Machine.execSupervisionIntervalExpiry p s
  | .supervisionGraceExpiry p => Sys2Proof.Machine.execSupervisionGraceExpiry p s
  | .linkLost p => Sys2Proof.Machine.execLinkLost p s
  | .powerOn => Sys2Proof.Machine.execPowerOn s
  | .resetLineAsserted => Sys2Proof.Machine.execResetLineAsserted s
  | .resetLineReleased => Sys2Proof.Machine.execResetLineReleased s
  | .channelRunEntry d => Sys2Proof.Machine.execChannelRunEntry d s
  | .lineInputRunEntry => Sys2Proof.Machine.execLineInputRunEntry s
  | .lineAcceptance l lv => Sys2Proof.Machine.execLineAcceptance l lv s
  | .internalPlacement q => Sys2Proof.Machine.execInternalPlacement q s
  | .raise n => Sys2Proof.Machine.execRaise n s
  | .lineDroppedRetirement sd => Sys2Proof.Machine.execLineDroppedRetirement sd s
  | .panelOffRetirement sd => Sys2Proof.Machine.execPanelOffRetirement sd s
  | .expiry n => Sys2Proof.Machine.execExpiry n s
  | .countdownStart d => Sys2Proof.Machine.execCountdownStart d s
  | .channelEntryAtTable d e => Sys2Proof.Machine.execChannelEntryAtTable d e s
  | .provenEvent d => Sys2Proof.Machine.execProvenEvent d s
  | .encoderStep d dir => Sys2Proof.Machine.execEncoderStep d dir s
  | .illegalTransition d => Sys2Proof.Machine.execIllegalTransition d s
  | .clsAcceptedAtChannel d lv => Sys2Proof.Machine.execClsAcceptedAtChannel d lv s
  | .lksAcceptedAtChannel d lv => Sys2Proof.Machine.execLksAcceptedAtChannel d lv s
  | .bfltAcceptedAtChannel d lv => Sys2Proof.Machine.execBfltAcceptedAtChannel d lv s
  | .edgeAcceptedAtGuard d lv => Sys2Proof.Machine.execEdgeAcceptedAtGuard d lv s
  | .frcAcceptedAtGuard d lv => Sys2Proof.Machine.execFrcAcceptedAtGuard d lv s
  | .stallIntervalExpiry d => Sys2Proof.Machine.execStallIntervalExpiry d s
  | .stallGraceExpiry d => Sys2Proof.Machine.execStallGraceExpiry d s
  | .warningIntervalExpiry d => Sys2Proof.Machine.execWarningIntervalExpiry d s
  | .reversalPauseExpiry d => Sys2Proof.Machine.execReversalPauseExpiry d s
  | .travelTimerExpiry d => Sys2Proof.Machine.execTravelTimerExpiry d s
  | .unlockWaitExpiry d => Sys2Proof.Machine.execUnlockWaitExpiry d s
  | .lockWaitExpiry d => Sys2Proof.Machine.execLockWaitExpiry d s
  | .retryWaitExpiry d => Sys2Proof.Machine.execRetryWaitExpiry d s
  | .plausibilityTimerExpiry d => Sys2Proof.Machine.execPlausibilityTimerExpiry d s
  | .flashPhaseExpiry d => Sys2Proof.Machine.execFlashPhaseExpiry d s
  | .provenFlagUpdate d sw lv => Sys2Proof.Machine.execProvenFlagUpdate d sw lv s
  | .channelStateAtClu d st => Sys2Proof.Machine.execChannelStateAtClu d st s
  | .zspdAtClu lv => Sys2Proof.Machine.execZspdAtClu lv s
  | .provingTimerExpiry => Sys2Proof.Machine.execProvingTimerExpiry s
  | .characterReceived p ch => Sys2Proof.Machine.execCharacterReceived p ch s
  | .lineSample c levels => Sys2Proof.Machine.execLineSample c levels s
  | .supplyLoss => Sys2Proof.Machine.execSupplyLoss s

end Sys2Proof.Machine
end

