-- ==== Sys2Proof/Machine/Step.lean ====
section
/-! DEFINITION. The step: the command at the front of the queue, or, on an empty queue, the oldest event
that one block has sent another. -/

namespace Sys2Proof.Machine

/-- On an empty queue the oldest event sent between blocks is taken; with none outstanding the part idles
(log 7). -/
def idle (s : State) : Host.Outcome State Fault Refusal :=
  match s.sent with
  | [] => .next s
  | e :: _ => exec e s

/-- One step of the part. -/
def step (s : State) : Host.Outcome State Fault Refusal :=
  match s.pending with
  | [] => idle s
  | c :: rest => exec c { s with pending := rest }

/-- The state with the command that a word spells put at the front of its queue; no word spells one
(log 25). -/
def State.withFetchWord (s : State) (nbits w : Nat) : State :=
  match decodeTableWord nbits w with
  | none => s
  | some c => { s with pending := c :: s.pending }

end Sys2Proof.Machine
end

