-- ==== Sys2Proof/Safety.lean ====
section
/-! DEFINITION. What counts as a safe run: the states that a run reaches, and the invariants of the part. -/

namespace Sys2Proof.Safety

open Machine

/-- The states that runs reach from reset, whatever commands arrive. -/
inductive Reachable : State → Prop where
  | reset : Reachable State.reset
  | command (s : State) (c : Instr) (h : Reachable s) : Reachable { s with pending := s.pending ++ [c] }
  | step (s t : State) (h : Reachable s) (hs : step s = .next t) : Reachable t

/-- Every step keeps a property. -/
def Kept (Inv : State → Prop) : Prop := ∀ s t, Inv s → step s = .next t → Inv t

/-! ### The Hold Table (R1, R3, R6, R9, R10, R11) -/

/-- The issuer and scope of a hold belong to its slot (Table 1-1, R10). -/
def roleOk (i : SlotNo) (h : Hold) : Bool :=
  match (slotRole i).issuer with
  | some x => h.issuer == x && h.scope == (slotRole i).scope
  | none => h.issuer == .trn || h.issuer == .atd || h.issuer == .mnt

/-- R6, R9, R10: a live hold in slot i. -/
def holdOk (s : State) (i : SlotNo) (h : Hold) : Bool :=
  h.handle == { epoch := s.epoch, slot := BitVec.ofNat 8 i.val, generation := (s.slot i).generation } &&
  roleOk i h && mayPlace h.issuer h.kind && decide (h.level.val ≤ levelCap h.issuer) && h.scope != 0#8 &&
  (h.countdown != .waiting || (h.kind == .opens && isSingle h.scope)) &&
  (h.limit.isNone || h.kind == .opens) &&
  (!h.rwl || h.kind == .closes || h.kind == .isolate)

/-- R1, R3: one slot. An occupied slot has neither reason nor mark; a mark stands in a pool slot with the
reason of a retirement. -/
def slotOk (s : State) (i : SlotNo) : Bool :=
  match (s.slot i).hold with
  | some h => holdOk s i h && (s.slot i).lastReason.isNone && (s.slot i).mark.isNone
  | none => (s.slot i).mark.isNone || (isPool i && (s.slot i).lastReason.isSome)

/-- The internal placements on their way to the table have the shape of R14. -/
def sentOk (s : State) : Bool :=
  s.sent.all (fun e => match e with
    | .internalPlacement q => placementShape q
    | _ => true)

/-- The Hold Table and what is on its way to it. -/
def TableOk (s : State) : Prop := (∀ i, slotOk s i = true) ∧ sentOk s = true

/-- R11: the live holds of the link issuers stay within their quotas, and no internal placement on its way
to the table could add one. -/
def QuotasOk (s : State) : Prop :=
  sentOk s = true ∧ s.liveCount .trn ≤ 24 ∧ s.liveCount .atd ≤ 12 ∧ s.liveCount .mnt ≤ 8

/-! ### CONFIGURE (R30, R32, R75, R79) -/

/-- A doorway in CONFIGURE: nothing moves, nothing is driven, nothing is recorded. -/
def doorQuiet (s : State) (d : Door) : Prop :=
  (s.chan d).state = (if s.fitted d then .unreferenced else .unfitted) ∧
  (s.chan d).referenced = false ∧ (s.chan d).drive = .free ∧ (s.chan d).solenoid = false ∧
  (s.chan d).lamp = .off ∧ (s.chan d).fault = none ∧ s.demand d = .resting ∧ s.guard d = .start

/-- In CONFIGURE the table is empty and every doorway is quiet. -/
def ConfigureQuiet (s : State) : Prop :=
  s.mode = .configure → (∀ i, s.hold i = none) ∧ ∀ d, doorQuiet s d

/-! ### The car loop (R124, R125) -/

/-- The loop is asserted exactly in PROVEN; out of UNPROVEN the part is in RUN and every fitted doorway is
proven; the proving timer runs exactly in PROVING. -/
def LoopOk (s : State) : Prop :=
  (s.clu.loop = true ↔ s.clu.stage = .proven) ∧
  (s.clu.stage ≠ .unproven → s.mode = .run ∧ s.allProven = true) ∧
  (s.clu.timer.isSome = true ↔ s.clu.stage = .proving)

/-! ### The link (R160, R164, R166, R170) -/

/-- An assembly under way, with its running CRC (R164, R165). -/
def assemblyOk (a : Assembly) : Bool :=
  match a.len with
  | none => a.body == []
  | some n => decide (2 ≤ n) && decide (n ≤ 32) && decide (a.body.length ≤ n) &&
    a.crc == crc8 (BitVec.ofNat 8 n :: a.body)

/-- One port: a request waits only while the slot is taken (R166); the supervision timer runs in ACTIVE and
SILENT alone (R170). -/
def portOk (x : PortState) : Prop :=
  (x.buffer.isSome = true → x.slot ≠ .free) ∧
  (x.supTimer.isSome = true ↔ x.sup = .active ∨ x.sup = .silent) ∧
  (∀ a, x.rx = some a → assemblyOk a = true)

/-- An answer is owed on Port S exactly while a store is in flight, on Port T never (R160). -/
def LinkOk (s : State) : Prop :=
  portOk s.portT ∧ portOk s.portS ∧
  (∀ q, s.portT.slot ≠ .reserved q) ∧
  (s.store.isSome = true ↔ ∃ q, s.portS.slot = .reserved q)

/-! ### Outputs (R53, R116, R173, Table 3-2) -/

/-- R53, R173: the chimes and the attention lines of a running part follow what they stand for. -/
def SignalsOk (s : State) : Prop :=
  s.running = true →
    s.chime0 = s.chimeWanted .left ∧ s.chime1 = s.chimeWanted .right ∧
    s.portT.attention = s.portT.wantsAttention ∧ s.portS.attention = s.portS.wantsAttention

/-- Table 3-2: the drive mode of each channel state. -/
def driveFits (st : ChState) (dr : Drive) : Bool :=
  match st, dr with
  | .unfitted, .free => true
  | .unreferenced, .free => true
  | .referencing, .driveClose _ => true
  | .locked, .free => true
  | .unlocking, .brake => true
  | .plugOut, .driveOpen _ => true
  | .slideOpen, .driveOpen _ => true
  | .isOpen, .brake => true
  | .openBlocked, .brake => true
  | .stopping, .brake => true
  | .warning, .brake => true
  | .slideClose, .driveClose _ => true
  | .plugIn, .driveClose _ => true
  | .locking, .driveClose _ => true
  | .reseat, .driveClose _ => true
  | .relief, .driveOpen _ => true
  | .standing, .free => true
  | .egress, .free => true
  | .faulted, .free => true
  | _, _ => false

/-- Table 3-2: the lamp of each channel state. -/
def lampFits (st : ChState) (lamp : Lamp) : Bool :=
  match st, lamp with
  | .referencing, l => l == .on
  | .slideClose, l => l == .on
  | .plugIn, l => l == .on
  | .locking, l => l == .on
  | .reseat, l => l == .on
  | .relief, l => l == .on
  | .warning, .flashing _ => true
  | .standing, .flashing _ => true
  | .warning, _ => false
  | .standing, _ => false
  | _, l => l == .off

/-- Table 3-2, R116: where the solenoid may be energised: in UNLOCKING, in PLUG_OUT at or below LOCK_WINDOW, in
EGRESS. -/
def solenoidFits (s : State) (d : Door) : Bool :=
  match (s.chan d).state with
  | .unlocking => true
  | .plugOut => decide ((s.chan d).position.val ≤ s.cfg.lockWindow d)
  | .egress => true
  | _ => false

/-- The outputs of one doorway: while the part runs, drive and lamp are those of the state, the solenoid is
energised only where the latch is to be held, it is energised in PLUG_OUT wherever it may be, and in EGRESS, and an
unlock wait runs only in UNLOCKING (R117); held or without supply, everything is off (R180). -/
def outputsFit (s : State) (d : Door) : Prop :=
  (s.running = true →
    driveFits (s.chan d).state (s.chan d).drive = true ∧
    lampFits (s.chan d).state (s.chan d).lamp = true ∧
    ((s.chan d).solenoid = true → solenoidFits s d = true) ∧
    ((s.chan d).state = .plugOut ∨ (s.chan d).state = .egress → solenoidFits s d = true →
      (s.chan d).solenoid = true) ∧
    ((s.chan d).unlock.isSome = true → (s.chan d).state = .unlocking)) ∧
  (s.running = false →
    (s.chan d).drive = .free ∧ (s.chan d).solenoid = false ∧ (s.chan d).lamp = .off ∧ s.clu.loop = false)

/-- R76, R179: a channel that has yet to take the entry into RUN stands in UNREFERENCED, unless a handle has
taken it to EGRESS or, from there, to FAULTED (log 15). -/
def entryWaits (s : State) (d : Door) : Prop :=
  s.sent.contains (.channelRunEntry d) = true → s.fitted d = true →
    (s.chan d).state = .unreferenced ∨ (s.chan d).state = .egress ∨ (s.chan d).state = .faulted

/-- With CONFIGURE quiet, the outputs of every doorway fit; the channel of a doorway that is not fitted stays
UNFITTED (R74), and one that has yet to enter RUN waits. -/
def OutputsOk (s : State) : Prop :=
  ConfigureQuiet s ∧
  ∀ d, outputsFit s d ∧ (s.fitted d = false → (s.chan d).state = .unfitted) ∧ entryWaits s d

/-! ### Demands (R41, R43, R58) -/

/-- The states that open a doorway (R43). -/
def openingState (st : ChState) : Bool := st == .unlocking || st == .plugOut || st == .slideOpen

/-- In RUN the record of a fitted doorway is the one that the table gives (R41), its channel is not UNFITTED,
and it is in UNLOCKING, PLUG_OUT or SLIDE_OPEN only while its demand is OPEN (R43). -/
def doorObeys (s : State) (d : Door) : Prop :=
  if s.fitted d then
    s.demand d = s.resolve d ∧ (s.chan d).state ≠ .unfitted ∧
    (openingState (s.chan d).state = true → (s.demand d).kind = .opens)
  else (s.chan d).state = .unfitted

/-- With a sound table and CONFIGURE quiet, every doorway of a part in RUN obeys its demand. -/
def DemandsOk (s : State) : Prop :=
  TableOk s ∧ ConfigureQuiet s ∧ (s.mode = .run → ∀ d, doorObeys s d ∧ entryWaits s d)

/-! ### The obstruction record (R78, R86, R91, R96, R97) -/

/-- The reopen count stays within REOPEN_MAX + 1, a cause is recorded exactly while it is not 0, a captured
position has its band, the retries are exhausted exactly at 3, and a doorway in LOCKED has a zero record. -/
def guardOk (s : State) (d : Door) : Prop :=
  (s.guard d).reopenCount ≤ s.cfg.reopenMax + 1 ∧
  ((s.guard d).lastCause.isSome = true ↔ 1 ≤ (s.guard d).reopenCount) ∧
  ((s.guard d).capturedPos.isSome = (s.guard d).capturedBand.isSome) ∧
  ((s.guard d).openExhausted = true ↔ (s.guard d).openRetry = 3) ∧
  ((s.chan d).state = .locked → (s.guard d).reopenCount = 0 ∧ (s.guard d).openRetry = 0)

/-- With CONFIGURE quiet, every obstruction record is sound. -/
def ObstructionOk (s : State) : Prop := ConfigureQuiet s ∧ ∀ d, guardOk s d

/-! ### The configuration (R159, R176, R177) -/

/-- An image of 445 bytes with every field in its range. -/
def imageOk (im : Image) : Prop := im.bytes.length = imageLength ∧ im.inRange = true

/-- The working configuration is in range, and so is every image that a start may load. -/
def ConfigOk (s : State) : Prop :=
  imageOk s.cfg ∧ (∀ im, s.store = some im → imageOk im.image) ∧
  (s.stored.good = true → imageOk s.stored.image)

end Sys2Proof.Safety
end

