-- ==== Sys2Proof/Certificates/Slice0/Obligations.lean ====
section
/-! DEFINITION. The statements for the provers. The predicates of Sys2Proof.Claims say what two states have
in common, and give the tables of the spec that a statement compares the model with. -/

namespace Sys2Proof.Claims

open Machine Safety

/-! ### What two states have in common -/

/-- Supply, reset line, mode, configuration, stored image, epoch and queue stand. A start is not taken back: what
the epoch cell held before it stays known, or is forgotten (log 11). -/
def SameControl (s t : State) : Prop :=
  t.supply = s.supply ∧ t.resetLine = s.resetLine ∧ t.mode = s.mode ∧ t.resetCause = s.resetCause ∧
  t.epochCell = s.epochCell ∧ t.epoch = s.epoch ∧ t.cfg = s.cfg ∧ t.source = s.source ∧
  t.stored = s.stored ∧ t.store = s.store ∧ t.pwm = s.pwm ∧ t.pending = s.pending ∧
  (t.epochOld = none ∨ t.epochOld = s.epochOld)

/-- Every channel, guard section and demand record stands. -/
def SameDoors (s t : State) : Prop := t.chans = s.chans ∧ t.guards = s.guards ∧ t.demands = s.demands

/-- Channel, guard section and demand record of one doorway stand. -/
def SameDoor (d : Door) (s t : State) : Prop :=
  t.chan d = s.chan d ∧ t.guard d = s.guard d ∧ t.demand d = s.demand d

/-- Every filter and both panel enables stand. -/
def SameLines (s t : State) : Prop :=
  t.lines = s.lines ∧ t.panelLeft = s.panelLeft ∧ t.panelRight = s.panelRight

/-- A port's receiver, slot, buffer, flags, supervision, settings and mask stand. -/
def SameLink (p : Port) (s t : State) : Prop :=
  (t.port p).rx = (s.port p).rx ∧ (t.port p).awaitHigh = (s.port p).awaitHigh ∧
  (t.port p).slot = (s.port p).slot ∧ (t.port p).buffer = (s.port p).buffer ∧
  (t.port p).overrun = (s.port p).overrun ∧ (t.port p).sup = (s.port p).sup ∧
  (t.port p).supTimer = (s.port p).supTimer ∧ (t.port p).line = (s.port p).line ∧
  (t.port p).mask = (s.port p).mask

/-- A port's notices stand. -/
def SameNotices (p : Port) (s t : State) : Prop :=
  (t.port p).kinds = (s.port p).kinds ∧ (t.port p).standing = (s.port p).standing ∧
  (t.port p).fault = (s.port p).fault ∧ (t.port p).egress = (s.port p).egress

/-- Everything but the ports stands. -/
def SameButPorts (s t : State) : Prop :=
  SameControl s t ∧ t.slots = s.slots ∧ SameDoors s t ∧ SameLines s t ∧ t.clu = s.clu ∧ t.sent = s.sent

/-- Everything but doorway d stands: an event at one channel. Its notices, and what it sends, are said by
the statement. -/
def OnlyDoor (d : Door) (s t : State) : Prop :=
  SameControl s t ∧ t.slots = s.slots ∧ SameLines s t ∧ t.clu = s.clu ∧ t.free = s.free ∧
  (∀ e, e ≠ d → SameDoor e s t) ∧ SameLink .t s t ∧ SameLink .s s t

/-- No notice is raised on either port. -/
def NoNotice (s t : State) : Prop := SameNotices .t s t ∧ SameNotices .s s t

/-- The events that doorway d sends: its GRD placement, and what its channel tells the table and the Car Loop
Unit. -/
def fromDoor (d : Door) (e : Instr) : Bool :=
  route e == some (.guardToTable d) || route e == some (.channelToTable d) || route e == some (.channelToClu d)

/-- Channel, guard section and demand record of doorway d, and what it has sent, are those of u. -/
def DoorAs (d : Door) (u t : State) : Prop :=
  t.chan d = u.chan d ∧ t.guard d = u.guard d ∧ t.demand d = u.demand d ∧
  t.sent.filter (fromDoor d) = u.sent.filter (fromDoor d)

/-- What no doorway sends is, in t, what was outstanding in s. -/
def OthersSend (s t : State) : Prop :=
  t.sent.filter (fun e => !doors.any (fun d => fromDoor d e)) =
    s.sent.filter (fun e => !doors.any (fun d => fromDoor d e))

/-- R41, R43, R44: an event at the table, taken in s, hands some doorways to the Demand Resolver. Each fitted one of
them is recomputed from the table as the event leaves it, once, and a record that differs is delivered: the
doorway ends as `recomputeDoor` leaves it (its reactions: ChannelsActOnDemandChanges, EgressLetsTheLeafGo). Every
other doorway, and what no doorway sends, stands. No order among the doorways is said. -/
def DoorsFollow (touched : Door → Prop) (s t : State) : Prop :=
  (∀ d, (touched d → s.fitted d = true →
      DoorAs d (recomputeDoor d { s with slots := t.slots }) t ∧ t.demand d = t.resolve d) ∧
    (¬ touched d ∨ s.fitted d = false → DoorAs d s t)) ∧ OthersSend s t

/-- An event at the Hold Table: everything but the slots, the doorways, the notices and what is sent stands. -/
def TableEvent (s t : State) : Prop :=
  SameControl s t ∧ SameLines s t ∧ t.clu = s.clu ∧ t.free = s.free ∧ SameLink .t s t ∧ SameLink .s s t

/-! ### Requests at a port -/

/-- Table 8-1, Sender. -/
def senderColumn : RequestKind → List Issuer
  | .presence => [.trn, .atd, .mnt]
  | .place => [.trn, .atd, .mnt]
  | .amend => [.trn, .atd, .mnt]
  | .renew => [.trn, .atd, .mnt]
  | .retire => [.trn, .atd, .mnt]
  | .withdraw => [.trn, .atd, .mnt]
  | .lookup => [.trn, .atd, .mnt]
  | .survey => [.trn, .atd, .mnt]
  | .doorwayReport => [.trn, .atd, .mnt]
  | .carReport => [.trn, .atd, .mnt]
  | .clearObstruction => [.trn, .atd, .mnt]
  | .clearFault => [.atd, .mnt]
  | .panel => [.trn, .atd]
  | .collectNotices => [.trn, .atd, .mnt]
  | .noticeMask => [.trn, .atd, .mnt]
  | .configRead => [.trn, .atd, .mnt]
  | .configWrite => [.mnt]
  | .configStore => [.mnt]
  | .startRun => [.mnt]
  | .restart => [.mnt]

/-- Table 8-1, Mode. -/
def modeColumn : RequestKind → List Mode
  | .presence => [.configure, .run]
  | .place => [.run]
  | .amend => [.run]
  | .renew => [.run]
  | .retire => [.run]
  | .withdraw => [.run]
  | .lookup => [.configure, .run]
  | .survey => [.configure, .run]
  | .doorwayReport => [.configure, .run]
  | .carReport => [.configure, .run]
  | .clearObstruction => [.run]
  | .clearFault => [.run]
  | .panel => [.run]
  | .collectNotices => [.configure, .run]
  | .noticeMask => [.configure, .run]
  | .configRead => [.configure, .run]
  | .configWrite => [.configure]
  | .configStore => [.configure]
  | .startRun => [.configure]
  | .restart => [.configure, .run]

/-- Table 1-4, Kinds. -/
def kindsColumn : Issuer → List HoldKind
  | .trn => [.release, .opens, .closes]
  | .atd => [.opens, .closes, .isolate]
  | .mnt => [.opens, .closes, .isolate]
  | .rln => [.release]
  | .pnl => [.opens]
  | .grd => [.opens]
  | .hdl => [.egress]

/-- Table 1-4, Level cap, of the issuers that send requests. -/
def capColumn : Issuer → Nat
  | .trn => 4
  | .atd => 6
  | _ => 7

/-- Table 1-4, Quota. -/
def quotaColumn : Issuer → Nat
  | .trn => 24
  | .atd => 12
  | .rln => 2
  | _ => 8

/-- Table 1-5: who may retire a hold of an issuer. -/
def retirersColumn : Issuer → List Issuer
  | .trn => [.trn, .atd, .mnt]
  | .atd => [.atd, .mnt]
  | .mnt => [.mnt]
  | .rln => []
  | .pnl => [.trn, .atd, .mnt]
  | .grd => [.atd, .mnt]
  | .hdl => [.atd, .mnt]

/-- The request that a command is: port, kind, sequence, parameter characters (Table 11-3). -/
def requestOf : Instr → Option (Port × RequestKind × Byte × List Byte)
  | .presence p q => some (p, .presence, q, [])
  | .place p q x => some (p, .place, q, placeBytes x)
  | .amend p q x => some (p, .amend, q, amendBytes x)
  | .renew p q h l => some (p, .renew, q, renewBytes h l)
  | .retire p q h => some (p, .retire, q, handleBytes h)
  | .withdraw p q k => some (p, .withdraw, q, [k])
  | .lookup p q h => some (p, .lookup, q, handleBytes h)
  | .survey p q a x k => some (p, .survey, q, [a, x, k])
  | .doorwayReport p q sc => some (p, .doorwayReport, q, [sc])
  | .carReport p q => some (p, .carReport, q, [])
  | .clearObstruction p q sc => some (p, .clearObstruction, q, [sc])
  | .clearFault p q sc => some (p, .clearFault, q, [sc])
  | .panel p q a b => some (p, .panel, q, [a, b])
  | .collectNotices p q => some (p, .collectNotices, q, [])
  | .noticeMask p q k => some (p, .noticeMask, q, [k])
  | .configRead p q o n => some (p, .configRead, q, configReadBytes o n)
  | .configWrite p q o l => some (p, .configWrite, q, configWriteBytes o l)
  | .configStore p q => some (p, .configStore, q, [])
  | .startRun p q => some (p, .startRun, q, [])
  | .restart p q => some (p, .restart, q, [])
  | _ => none

/-- The part runs, the port's answer slot is FREE, and no loss of the port waits for the table (log 20). -/
def Ready (p : Port) (s : State) : Prop :=
  s.running = true ∧ (s.port p).slot = .free ∧ s.sent.contains (.linkLost p) = false

/-- The issuer of a request by port and key (R144). -/
def issuerAt (p : Port) (s : State) : Issuer :=
  match p with
  | .t => .trn
  | .s => if s.asserted .mkey then .mnt else .atd

/-- The flags byte of Table 11-1 for an answer formed as the part stands in t, with the OVERRUN flag given. -/
def flagsByte (overrun : Bool) (p : Port) (t : State) : Byte :=
  (if overrun then 0x01#8 else 0#8) ||| (if (t.port p).kinds = 0#8 then 0#8 else 0x02#8) |||
  (if t.mode = .run then 0x04#8 else 0#8) ||| (if t.clu.loop = true then 0x08#8 else 0#8)

/-- The port after a good request: its supervision (R170), and its receive line, which is high (R163). -/
def Supervised (p : Port) (s t : State) : Prop :=
  (t.port p).awaitHigh = false ∧
  if s.cfg.supTime p = 0 then (t.port p).sup = (s.port p).sup ∧ (t.port p).supTimer = (s.port p).supTimer
  else (t.port p).sup = .active ∧ (t.port p).supTimer = some (s.cfg.supTime p)

/-- R163: the character that a line held low for longer than one character gives (log 36). -/
def breakHeard (l : LineSettings) (ch : RxChar) : Bool :=
  decide (ch.data = 0#8) && !ch.stopHigh && (decide (l.parity = .none) || !ch.parityBit)

/-- The answer being sent after a message of kind k: kind + 80h, sequence, result, flags, payload (R169); the
overrun flag is clear, the receiver hunts, the buffer and the settings stand. -/
def Answers (p : Port) (k seq : Byte) (r : Result) (payload : List Byte) (s t : State) : Prop :=
  (t.port p).slot = .sending
    { kind := k + 0x80#8, seq := seq, result := r.code
      flags := flagsByte (s.port p).overrun p t, payload := payload } false ∧
  (t.port p).overrun = false ∧ (t.port p).rx = none ∧ (t.port p).buffer = (s.port p).buffer ∧
  (t.port p).line = (s.port p).line

/-- Nothing is changed but the answer of port p, and its supervision. -/
def AnswerAlone (p : Port) (s t : State) : Prop :=
  SameButPorts s t ∧ SameNotices p s t ∧ (t.port p).mask = (s.port p).mask ∧
  SameLink (otherPort p) s t ∧ SameNotices (otherPort p) s t

/-- A request answered, with nothing else changed but what every good request does at its port. -/
def OnlyAnswers (p : Port) (k seq : Byte) (r : Result) (payload : List Byte) (s t : State) : Prop :=
  Answers p k seq r payload s t ∧ Supervised p s t ∧ AnswerAlone p s t

/-- The same, at a command. -/
def JustAnswers (c : Instr) (p : Port) (k : RequestKind) (seq : Byte) (r : Result) (payload : List Byte)
    (s : State) : Prop :=
  ∃ t, exec c s = .next t ∧ OnlyAnswers p k.code seq r payload s t ∧ t.free = s.free

/-- A request that was carried out: its answer, its supervision, and what no request at a doorway or at the
table changes. -/
def Done (p : Port) (k : RequestKind) (seq : Byte) (payload : List Byte) (s t : State) : Prop :=
  Answers p k.code seq .ok payload s t ∧ Supervised p s t ∧ SameControl s t ∧ SameLines s t ∧ t.clu = s.clu ∧
  (t.port p).mask = (s.port p).mask ∧ SameLink (otherPort p) s t

/-! ### The Hold Table -/

/-- Exactly the live holds that `sel` selects are retired, with a reason; `own` says that it is at the
request of their own issuer (R18 items 1 to 3 and 5). -/
def Retires (sel : SlotNo → Hold → Prop) (r : Reason) (own : Bool) (s t : State) : Prop :=
  ∀ i,
    (∀ h ∈ s.hold i, sel i h → t.slot i =
      { hold := none, generation := (s.slot i).generation + 1#8, lastReason := some r
        mark := if isPool i && !own then some h.issuer else (s.slot i).mark }) ∧
    ((∀ h ∈ s.hold i, ¬ sel i h) → t.slot i = s.slot i)

/-- R18 item 5: a RETIRED notice on the port of each pool hold retired. -/
def RetiredNotices (sel : SlotNo → Hold → Prop) (s t : State) : Prop :=
  ∀ i, ∀ h ∈ s.hold i, sel i h → isPool i = true →
    (t.port (if h.issuer = .trn then .t else .s)).kinds.getLsbD 1 = true

/-- R20: no RETIRED notice is raised on either port. -/
def NoRetiredNotice (s t : State) : Prop := ∀ p, (t.port p).kinds.getLsbD 1 = (s.port p).kinds.getLsbD 1

/-- Doorways in the scope of a selected hold. -/
def inScopes (sel : SlotNo → Hold → Prop) (s : State) (d : Door) : Prop :=
  ∃ i, ∃ h ∈ s.hold i, sel i h ∧ has h.scope d = true

/-- The holds that the loss of a port retires (R23). -/
def heldBy (p : Port) (_ : SlotNo) (h : Hold) : Prop :=
  match p with
  | .t => h.issuer = .trn
  | .s => h.issuer = .atd ∨ h.issuer = .mnt

/-- A doorway in a starting condition (R25). -/
abbrev startsAtOnce (s : State) (d : Door) : Prop :=
  (s.chan d).state = .isOpen ∨ ((s.chan d).state = .openBlocked ∧ (s.guard d).openExhausted = true) ∨
  (s.chan d).state = .standing ∨ (s.chan d).state = .faulted ∨ (s.chan d).state = .egress

/-- The countdown of a hold over a scope that is to wait (R25). -/
def countdownFor (s : State) (sc : DoorSet) (waiting : Bool) : Countdown :=
  if waiting = true ∧ ¬ ∃ d : Door, sc = single d ∧ startsAtOnce s d then .waiting else .running

/-! ### Channels -/

/-- The part runs and channel d is in RUN. -/
def Moving (d : Door) (s : State) : Prop := s.running = true ∧ s.chanInRun d = true

/-- No line of doorway d turns an event aside: no bridge fault, no force comparison, no edge. -/
abbrev Unhindered (d : Door) (s : State) : Prop :=
  s.asserted (.bflt d) = false ∧ s.asserted (.frc d) = false ∧ s.asserted (.edge d) = false

/-- The six timers of a channel that end with its state: warning, pause, travel, unlock, lock wait, retry. -/
def Timers (c : Channel) (w p : Option Nat) (tr : Option (Motion × Nat)) (u : Option (UnlockStage × Nat))
    (l r : Option Nat) : Prop :=
  c.warn = w ∧ c.pause = p ∧ c.travel = tr ∧ c.unlock = u ∧ c.lockWait = l ∧ c.retryWait = r

/-- Those six timers are stopped. -/
def Untimed (c : Channel) : Prop := Timers c none none none none none none

/-- State and outputs of a channel (Table 3-2). -/
def Outputs (c : Channel) (st : ChState) (dr : Drive) (sol : Bool) (lamp : Lamp) : Prop :=
  c.state = st ∧ c.drive = dr ∧ c.solenoid = sol ∧ c.lamp = lamp

/-- Position, reference, band, fault record, plausibility timer and encoder lines of a channel stand. -/
def SameLeaf (c c' : Channel) : Prop :=
  c'.position = c.position ∧ c'.referenced = c.referenced ∧ c'.band = c.band ∧ c'.fault = c.fault ∧
  c'.plaus = c.plaus ∧ c'.encA = c.encA ∧ c'.encB = c.encB

/-- Reopen count, last cause and capture stand (Table 4-1). -/
def SameReopen (g g' : Guard) : Prop :=
  g'.reopenCount = g.reopenCount ∧ g'.lastCause = g.lastCause ∧ g'.capturedPos = g.capturedPos ∧
  g'.capturedBand = g.capturedBand

/-- Reopen count, last cause and capture are zeroed (R91). -/
def ZeroReopen (g : Guard) : Prop :=
  g.reopenCount = 0 ∧ g.lastCause = none ∧ g.capturedPos = none ∧ g.capturedBand = none

/-- The open retry count and its exhaustion stand. -/
def SameRetry (g g' : Guard) : Prop := g'.openRetry = g.openRetry ∧ g'.openExhausted = g.openExhausted

/-- The open retry count is zeroed (R97). -/
def ZeroRetry (g : Guard) : Prop := g.openRetry = 0 ∧ g.openExhausted = false

/-- The section is IDLE (R80). -/
def Resting (g : Guard) : Prop := g.stage = .idle ∧ g.stallTimer = none

/-- A motion has begun at the section (R80). -/
def Watching (s : State) (d : Door) (g : Guard) : Prop :=
  g.stage = .normal ∧ g.stallTimer = some (s.cfg.stallInterval d) ∧ g.blank = 0

/-- A FAULT, STANDING or EGRESS notice with doorway d stands on both ports (R172). -/
def DoorNotice (k : Nat) (set : PortState → DoorSet) (d : Door) (t : State) : Prop :=
  ∀ p, (t.port p).kinds.getLsbD k = true ∧ has (set (t.port p)) d = true

/-- What the channel of doorway d sends at an event: `es`, and its change of state to the Car Loop Unit (R72). -/
def Sends (d : Door) (es : List Instr) (s t : State) : Prop :=
  t.sent = s.sent ++ es ++
    (if (t.chan d).state = (s.chan d).state then [] else [.channelStateAtClu d (t.chan d).state])

/-- The same, at an event of several channels: what doorway d sends, wherever it falls among what others send. -/
def DoorSends (d : Door) (es : List Instr) (s t : State) : Prop :=
  t.sent.filter (fromDoor d) = s.sent.filter (fromDoor d) ++ es ++
    (if (t.chan d).state = (s.chan d).state then [] else [.channelStateAtClu d (t.chan d).state])

/-- An event at channel d that raises no notice, changes no demand record and sends `es`. -/
def Plain (d : Door) (es : List Instr) (s t : State) : Prop :=
  OnlyDoor d s t ∧ NoNotice s t ∧ t.demand d = s.demand d ∧ Sends d es s t

/-- R61: the doorway's own GRD hold, in slot 10+d, governs (log 18). -/
abbrev GuardGoverns (d : Door) (s : State) : Prop :=
  ∃ h ∈ (s.demand d).gov, h.slot.toNat = 10 + d.val

/-- R61: an arrival at OPEN. -/
def Arrives (d : Door) (s t : State) : Prop :=
  Outputs (t.chan d) .isOpen .brake false .off ∧ Untimed (t.chan d) ∧ Resting (t.guard d) ∧
  ZeroRetry (t.guard d) ∧ (if GuardGoverns d s then SameReopen (s.guard d) (t.guard d) else ZeroReopen (t.guard d))

/-- R59, R60, R116: an opening motion begins, in SLIDE_OPEN or in PLUG_OUT. -/
def Opens (d : Door) (slide : Bool) (s t : State) : Prop :=
  Outputs (t.chan d) (if slide then .slideOpen else .plugOut)
    (.driveOpen (s.cfg.openLevel d (s.chan d).band))
    (!slide && decide ((s.chan d).position.val ≤ s.cfg.lockWindow d)) .off ∧
  (t.chan d).threshold = s.cfg.openForce d (s.chan d).band ∧
  Timers (t.chan d) none none (some (.opening, s.cfg.travelOpen d)) none none none ∧
  Watching s d (t.guard d) ∧ SameReopen (s.guard d) (t.guard d) ∧ SameRetry (s.guard d) (t.guard d)

/-- R64, R68, R90, R95: the decision by position under an OPEN demand with a target. -/
def OpensByPosition (d : Door) (target : Nat) (s t : State) : Prop :=
  SameLeaf (s.chan d) (t.chan d) ∧
  if target ≤ (s.chan d).position.val + s.cfg.endWindow d
  then Arrives d s t ∧ Plain d [.countdownStart d] s t
  else Opens d (decide (s.cfg.plugPoint d ≤ (s.chan d).position.val)) s t ∧ Plain d [] s t

/-- R63: the entry into WARNING. -/
def Warns (d : Door) (s t : State) : Prop :=
  Outputs (t.chan d) .warning .brake false (.flashing true) ∧
  Timers (t.chan d)
    (some (if (s.guard d).reopenCount = 0 then s.cfg.warnTime else s.cfg.recloseWarn)) none none none none none ∧
  SameLeaf (s.chan d) (t.chan d) ∧ Resting (t.guard d) ∧ SameReopen (s.guard d) (t.guard d)

/-- R68: the entry into STOPPING. -/
def Stops (d : Door) (s t : State) : Prop :=
  Outputs (t.chan d) .stopping .brake false .off ∧
  Timers (t.chan d) none (some s.cfg.reversalPause) none none none none ∧
  SameLeaf (s.chan d) (t.chan d) ∧ Resting (t.guard d) ∧ SameReopen (s.guard d) (t.guard d) ∧
  SameRetry (s.guard d) (t.guard d)

/-- R57, R91, R97: the entry into LOCKED. -/
def Locks (d : Door) (s t : State) : Prop :=
  Outputs (t.chan d) .locked .free false .off ∧ Untimed (t.chan d) ∧ (t.chan d).position = 0 ∧
  (t.chan d).band = 0 ∧ (t.chan d).referenced = (s.chan d).referenced ∧ (t.chan d).fault = (s.chan d).fault ∧
  Resting (t.guard d) ∧ ZeroReopen (t.guard d) ∧ ZeroRetry (t.guard d)

/-- R119: the entry into LOCKING with the locked switch not yet made. -/
def Presses (d : Door) (s t : State) : Prop :=
  Outputs (t.chan d) .locking (.driveClose (s.cfg.pressLevel d)) false .on ∧
  Timers (t.chan d) none none none none (some (s.cfg.lockTime d)) none ∧
  (t.chan d).position = (s.chan d).position ∧ (t.chan d).referenced = (s.chan d).referenced ∧
  (t.chan d).fault = (s.chan d).fault ∧ Resting (t.guard d) ∧ SameReopen (s.guard d) (t.guard d) ∧
  SameRetry (s.guard d) (t.guard d)

/-- R65, R66: a closing motion begins, in SLIDE_CLOSE or in PLUG_IN. -/
def Closes (d : Door) (slide : Bool) (s t : State) : Prop :=
  Outputs (t.chan d) (if slide then .slideClose else .plugIn)
    (.driveClose (s.cfg.closeLevel d (s.chan d).band)) false .on ∧
  (t.chan d).threshold = s.cfg.closeForce d (s.chan d).band ∧
  Timers (t.chan d) none none (some (.closing, s.cfg.travelClose d)) none none none ∧
  SameLeaf (s.chan d) (t.chan d) ∧
  Watching s d (t.guard d) ∧ SameReopen (s.guard d) (t.guard d) ∧ SameRetry (s.guard d) (t.guard d)

/-- R86, R88: the entry into RELIEF at a closing detection, with its record. -/
def Relieves (d : Door) (cause : ObsCause) (s t : State) : Prop :=
  Outputs (t.chan d) .relief (.driveOpen (s.cfg.reliefLevel d)) false .on ∧ Untimed (t.chan d) ∧
  SameLeaf (s.chan d) (t.chan d) ∧
  (t.guard d).reopenCount = min ((s.guard d).reopenCount + 1) (s.cfg.reopenMax + 1) ∧
  (t.guard d).lastCause = some cause ∧
  (t.guard d).capturedPos = (if (s.chan d).referenced then some (s.chan d).position else none) ∧
  ((t.guard d).capturedBand.map Fin.val =
    if (s.chan d).referenced then some ((s.chan d).position.val / 128) else none) ∧
  (t.guard d).stage = .single ∧ (t.guard d).stallTimer = some (s.cfg.stallInterval d) ∧
  (t.guard d).reliefSteps = 0 ∧ SameRetry (s.guard d) (t.guard d)

/-- R87: the GRD placement that a closing detection sends, within REOPEN_MAX on a referenced leaf. -/
def guardPlacements (d : Door) (s : State) : List Instr :=
  if (s.guard d).reopenCount + 1 ≤ s.cfg.reopenMax ∧ (s.chan d).referenced = true then
    [.internalPlacement
      { issuer := .grd, slot := ⟨10 + d.val, by omega⟩, level := s.cfg.guardLevel
        lifetime := some s.cfg.reopenDwell, waiting := true
        limit := if s.cfg.reopenPartial
          then some (min (max ((s.chan d).position.val + s.cfg.reopenDist) (s.cfg.plugPoint d + 1)) (s.cfg.openEnd d))
          else none }]
  else []

/-- R88: a relief has somewhere to move. -/
abbrev RoomToRelieve (d : Door) (s : State) : Prop :=
  (s.chan d).referenced = true → (s.chan d).position.val < s.cfg.openEnd d

/-- R94, R96: an opening obstruction; at the third the retries are exhausted. -/
def Blocks (d : Door) (s t : State) : Prop :=
  let n := min 3 ((s.guard d).openRetry.val + 1)
  Outputs (t.chan d) .openBlocked .brake false .off ∧
  Timers (t.chan d) none none none none none (if n < 3 then some s.cfg.openRetryTime else none) ∧
  SameLeaf (s.chan d) (t.chan d) ∧ (t.guard d).openRetry.val = n ∧ Resting (t.guard d) ∧
  SameReopen (s.guard d) (t.guard d) ∧ OnlyDoor d s t ∧ t.demand d = s.demand d ∧
  if n < 3 then (t.guard d).openExhausted = (s.guard d).openExhausted ∧ NoNotice s t ∧ Sends d [] s t
  else (t.guard d).openExhausted = true ∧ DoorNotice 2 PortState.standing d t ∧ Sends d [.countdownStart d] s t

/-- R136: the record after a cause is recorded at a channel as it was when it was found. -/
def recordOf (c : Channel) (cause : FaultCause) : FaultRecord :=
  match c.fault with
  | some r => { r with later := some cause }
  | none => { first := cause, firstPosition := if c.referenced then some c.position else none
              firstState := c.state, later := none }

/-- R137: the entry into FAULTED at doorway d. -/
def EntersFaulted (d : Door) (s t : State) : Prop :=
  Outputs (t.chan d) .faulted .free false .off ∧ Untimed (t.chan d) ∧ (t.chan d).referenced = false ∧
  Resting (t.guard d) ∧ t.demand d = (if (s.chan d).referenced then t.resolve d else s.demand d)

/-- R129, R136: a cause found at doorway d is recorded and noticed. -/
def Records (d : Door) (cause : FaultCause) (s t : State) : Prop :=
  DoorNotice 3 PortState.fault d t ∧ (t.chan d).fault = some (recordOf (s.chan d) cause) ∧
  SameReopen (s.guard d) (t.guard d) ∧ SameRetry (s.guard d) (t.guard d)

/-- R129, R137: what a fault cause does. With a record already present, or in EGRESS, it is recorded and
nothing else; else the channel enters FAULTED. Position and pins are said by the statement. -/
def Faults (d : Door) (cause : FaultCause) (s t : State) : Prop :=
  OnlyDoor d s t ∧ Records d cause s t ∧
  if (s.chan d).fault.isSome = true ∨ (s.chan d).state = .egress then
    (t.chan d).state = (s.chan d).state ∧ (t.chan d).referenced = (s.chan d).referenced ∧
    t.guard d = s.guard d ∧ t.demand d = s.demand d ∧ t.sent = s.sent
  else
    EntersFaulted d s t ∧
    t.sent = s.sent.filter (fun c => !isGrdPlacement d c) ++ [.channelEntryAtTable d .faulted] ++
      (if (s.chan d).state = .faulted then [] else [.channelStateAtClu d .faulted])

/-- R90: the decision at the end of a relief, taken in state s: STANDING past REOPEN_MAX, else by the demand. -/
def ReliefEnds (d : Door) (s t : State) : Prop :=
  if s.cfg.reopenMax < (s.guard d).reopenCount then
    Outputs (t.chan d) .standing .free false (.flashing true) ∧ Untimed (t.chan d) ∧
    SameLeaf (s.chan d) (t.chan d) ∧ Resting (t.guard d) ∧ SameReopen (s.guard d) (t.guard d) ∧
    SameRetry (s.guard d) (t.guard d) ∧ OnlyDoor d s t ∧ t.demand d = s.demand d ∧
    DoorNotice 2 PortState.standing d t ∧
    t.sent = s.sent.filter (fun c => !isGrdPlacement d c) ++
      [.channelEntryAtTable d .standing, .channelStateAtClu d .standing]
  else
    ((s.demand d).kind = .closes ∨ (s.demand d).kind = .isolated →
      Warns d s t ∧ SameRetry (s.guard d) (t.guard d) ∧ Plain d [] s t) ∧
    ((s.demand d).kind = .opens → ∀ tg ∈ (s.demand d).target, OpensByPosition d tg s t)

/-- R86: the part with a closing detection recorded at doorway d, and its GRD placement sent (R87). -/
def detected (d : Door) (cause : ObsCause) (s : State) : State :=
  let ref := (s.chan d).referenced
  (s.modGuard d (fun g => { g with
    reopenCount := min (g.reopenCount + 1) (s.cfg.reopenMax + 1), lastCause := some cause
    capturedPos := if ref then some (s.chan d).position else none
    capturedBand := if ref then some ⟨(s.chan d).position.val / 128 % 8, by omega⟩ else none })).sendAll
    (guardPlacements d s)

/-- R86 to R88, R90: a closing detection relieves the leaf; a referenced leaf already at OPEN_END or above, with
no target beyond, ends the relief as it enters it. -/
def Detects (d : Door) (cause : ObsCause) (s t : State) : Prop :=
  if RoomToRelieve d s then Relieves d cause s t ∧ Plain d (guardPlacements d s) s t
  else (∀ tg ∈ (s.demand d).target, tg ≤ s.cfg.openEnd d) → ReliefEnds d (detected d cause s) t

/-- R81, Table 4-2: a leaf in this state at this position is watched for its edge. -/
def edgeSees (s : State) (d : Door) (st : ChState) (p : Nat) : Bool :=
  decide (st = .slideClose) || decide (st = .referencing) ||
  (decide (st = .plugIn) && decide (s.cfg.edgeMute d < p))

/-- R82: blanking is complete at once, so that a force held asserted blocks a motion at its beginning. -/
abbrev Strained (d : Door) (s : State) : Prop := s.asserted (.frc d) = true ∧ s.cfg.blankSteps d = 0

/-- A channel's phase in a motion at a position (R59, R60, R65, R66); other states have none. -/
def phaseAt (s : State) (d : Door) (st : ChState) (p : Nat) : ChState :=
  if st = .plugOut ∨ st = .slideOpen then (if s.cfg.plugPoint d ≤ p then .slideOpen else .plugOut)
  else if st = .slideClose ∨ st = .plugIn then (if s.cfg.plugPoint d < p then .slideClose else .plugIn)
  else st

/-- R66: a step to p finds the lock zone with its closed switch. -/
abbrev ReachesLockZone (s : State) (d : Door) (p : Nat) : Prop :=
  p ≤ s.cfg.lockWindow d ∧ s.asserted (.cls d) = true ∧
  ((s.chan d).state = .plugIn ∨ ((s.chan d).state = .slideClose ∧ p ≤ s.cfg.plugPoint d))

/-- R60, R61: a step to p reaches the open target. -/
abbrev ReachesTarget (s : State) (d : Door) (p : Nat) : Prop :=
  (s.chan d).state = .slideOpen ∧ ∃ tg ∈ (s.demand d).target, tg ≤ p

/-- R49, R131: a step of a referenced leaf that stays in range; an unreferenced one counts modulo 1024. -/
abbrev StepCounts (s : State) (d : Door) (dir : Dir) : Prop :=
  (s.chan d).referenced = true →
    match dir with
    | .opening => (s.chan d).position.val < 1023 ∧ (s.chan d).position.val < s.cfg.openEnd d + 32
    | .closing => 0 < (s.chan d).position.val

/-- R135: the step leaves the closed switch made in the slide. -/
abbrev ClosedInSlide (s : State) (d : Door) (dir : Dir) : Prop :=
  dir = .opening ∧ (s.chan d).referenced = true ∧ (s.chan d).position.val = s.cfg.plugPoint d ∧
  s.asserted (.cls d) = true

/-- The position that a counted step leads to (R49). -/
def stepTo (s : State) (d : Door) (dir : Dir) : Position :=
  match dir with
  | .opening => ⟨((s.chan d).position.val + 1) % 1024, by omega⟩
  | .closing => ⟨((s.chan d).position.val + 1023) % 1024, by omega⟩

/-- The part with the leaf of doorway d at a position, its encoder lines as they stand in t. -/
def leafMoved (d : Door) (p : Position) (s t : State) : State :=
  s.modChan d (fun c => { c with
    position := p, band := ⟨p.val / 128 % 8, by omega⟩, encA := (t.chan d).encA, encB := (t.chan d).encB })

/-- The events at which a fault cause is found at channel d (Table 7-1). -/
def FindsCause (c : Instr) (d : Door) (cause : FaultCause) (s : State) : Prop :=
  let ch := s.chan d
  (c = .illegalTransition d ∧ cause = .encoder) ∨
  (∃ dir, c = .encoderStep d dir ∧ cause = .range ∧ ch.state ≠ .unfitted ∧ ch.referenced = true ∧
    (dir = .opening → ch.position.val = 1023 ∨ s.cfg.openEnd d + 32 ≤ ch.position.val) ∧
    (dir = .closing → ch.position.val = 0)) ∨
  (∃ lv, c = .bfltAcceptedAtChannel d lv ∧ cause = .bridge ∧ lv = s.cfg.activeLevel .drive ∧ ch.drive ≠ .free) ∨
  (c = .unlockWaitExpiry d ∧ cause = .unlock ∧ ch.unlock.map Prod.fst = some .second) ∨
  (c = .lockWaitExpiry d ∧ cause = .lock ∧ ch.lockWait ≠ none ∧ ch.state = .reseat) ∨
  (∃ lv, c = .clsAcceptedAtChannel d lv ∧ cause = .lockLost .closed ∧ lv ≠ s.cfg.activeLevel .switch ∧
    ch.state = .locked) ∨
  (∃ lv, c = .lksAcceptedAtChannel d lv ∧ cause = .lockLost .locked ∧ lv ≠ s.cfg.activeLevel .switch ∧
    ch.state = .locked) ∨
  (∃ lv, c = .clsAcceptedAtChannel d lv ∧ cause = .switch .closedInSlide ∧ lv = s.cfg.activeLevel .switch ∧
    ch.referenced = true ∧ s.cfg.plugPoint d < ch.position.val) ∨
  (c = .plausibilityTimerExpiry d ∧ cause = .switch .lockedWithoutClosed ∧ ch.plaus ≠ none) ∨
  (∃ m, c = .travelTimerExpiry d ∧ cause = .travel m ∧ ch.travel.map Prod.fst = some m)

/-- The part with channel d entered into a state. -/
def entered (d : Door) (st : ChState) (s : State) : State := s.modChan d (fun c => { c with state := st })

/-- The part as an opening decision by position leaves it (R61, R64, R68, R95): arrived, or opening. -/
def openedByPosition (d : Door) (tg : Nat) (s : State) : State :=
  let p := (s.chan d).position.val
  if tg ≤ p + s.cfg.endWindow d then
    ((entered d .isOpen s).modGuard d (fun g =>
      if GuardGoverns d s then { g with openRetry := 0, openExhausted := false }
      else { g with reopenCount := 0, lastCause := none, capturedPos := none, capturedBand := none
                    openRetry := 0, openExhausted := false })).send (.countdownStart d)
  else entered d (if s.cfg.plugPoint d ≤ p then .slideOpen else .plugOut) s

/-- R132: the events that take channel d into a state that brakes or drives, and the part as the entry leaves it;
a bridge fault line asserted there is a BRIDGE cause. -/
def EntersDriven (c : Instr) (d : Door) (s v : State) : Prop :=
  let ch := s.chan d
  let closing : Prop := (s.demand d).kind = .closes ∨ (s.demand d).kind = .isolated
  (c = .warningIntervalExpiry d ∧ ch.warn ≠ none ∧ v = entered d (if ch.referenced then
    (if s.cfg.plugPoint d < ch.position.val then .slideClose else .plugIn) else .referencing) s) ∨
  (c = .reversalPauseExpiry d ∧ ch.pause ≠ none ∧ closing ∧ v = entered d .warning s) ∨
  (∃ tg ∈ (s.demand d).target, (s.demand d).kind = .opens ∧ v = openedByPosition d tg s ∧
    ((c = .reversalPauseExpiry d ∧ ch.pause ≠ none) ∨ (c = .retryWaitExpiry d ∧ ch.retryWait ≠ none))) ∨
  (c = .lockWaitExpiry d ∧ ch.lockWait ≠ none ∧ ch.state = .locking ∧ v = entered d .reseat s) ∨
  (∃ lv, c = .lksAcceptedAtChannel d lv ∧ lv ≠ s.cfg.activeLevel .switch ∧ ch.state = .unlocking ∧
    v = entered d .plugOut s) ∨
  (∃ lv, c = .clsAcceptedAtChannel d lv ∧ lv = s.cfg.activeLevel .switch ∧ ch.state = .plugIn ∧
    ch.position.val ≤ s.cfg.lockWindow d ∧ ch.position.val ≤ s.cfg.plugPoint d ∧ v = entered d .locking s) ∨
  (∃ lv, c = .edgeAcceptedAtGuard d lv ∧ lv = s.cfg.activeLevel .edge ∧
    edgeSees s d ch.state ch.position.val = true ∧ v = entered d .relief (detected d .edge s)) ∨
  (∃ lv, c = .frcAcceptedAtGuard d lv ∧ lv = s.cfg.activeLevel .drive ∧ s.cfg.blankSteps d ≤ (s.guard d).blank ∧
    ((ch.state = .slideClose ∨ ch.state = .plugIn ∨ ch.state = .referencing) ∧
      v = entered d .relief (detected d .force s) ∨
     (ch.state = .plugOut ∨ ch.state = .slideOpen) ∧
      v = if (s.guard d).openRetry.val < 2
        then (entered d .openBlocked s).modGuard d (fun g => { g with openRetry := g.openRetry + 1 })
        else ((entered d .openBlocked s).modGuard d (fun g => { g with
          openRetry := 3, openExhausted := true })).send (.countdownStart d))) ∨
  (∃ dir, c = .encoderStep d dir ∧ StepCounts s d dir ∧ phaseAt s d ch.state (stepTo s d dir).val ≠ ch.state ∧
    ¬ ReachesLockZone s d (stepTo s d dir).val ∧ ¬ ReachesTarget s d (stepTo s d dir).val ∧
    v = entered d (phaseAt s d ch.state (stepTo s d dir).val) (leafMoved d (stepTo s d dir) s s))

/-- Both switches of a doorway are made. -/
abbrev PairMade (d : Door) (s : State) : Prop := s.asserted (.cls d) = true ∧ s.asserted (.lks d) = true

/-- R55: the record under which UNREFERENCED waits: OPEN, or blocked with the doorway released. -/
abbrev KeepsWaiting (r : Demand) : Prop := r.kind = .opens ∨ (r.blocked = true ∧ r.released = true)

/-- R132: a record that differs, delivered by a recomputation in s, takes channel d into a state that brakes or
drives (Table 3-3, R55, R71), and the part as the entry leaves it. -/
def EntersByRecord (d : Door) (s v : State) : Prop :=
  let new := s.resolve d
  let u := s.setDemand d new
  let st := (s.chan d).state
  let p := (s.chan d).position.val
  let changed : Prop := (s.demand d).kind ≠ new.kind ∨ (s.demand d).target ≠ new.target
  let closing : Prop := new.kind = .closes ∨ new.kind = .isolated
  new ≠ s.demand d ∧
  ((closing ∧ ¬ KeepsWaiting new ∧ (st = .unreferenced ∨ (st = .egress ∧ ¬ PairMade d s)) ∧
      v = entered d .warning u) ∨
   (changed ∧ new.kind = .opens ∧
     ((st = .locked ∧ v = entered d .unlocking u) ∨
      ((st = .slideClose ∨ st = .plugIn) ∧ v = entered d .stopping u) ∨
      ((st = .locking ∨ st = .reseat) ∧ v = entered d .plugOut u) ∨
      ∃ tg ∈ new.target, v = openedByPosition d tg u ∧
        ((st = .warning ∧ (s.chan d).referenced = true) ∨ st = .standing ∨ (st = .slideOpen ∧ tg ≤ p) ∨
         (st = .isOpen ∧ p + s.cfg.endWindow d < tg) ∨ (st = .openBlocked ∧ tg ≤ p + s.cfg.endWindow d)))) ∨
   (changed ∧ closing ∧
     (((st = .plugOut ∨ st = .slideOpen) ∧ v = entered d .stopping u) ∨
      (st = .isOpen ∧ v = entered d .warning u) ∨
      (st = .openBlocked ∧
        v = (entered d .warning u).modGuard d (fun g => { g with openRetry := 0, openExhausted := false })))))

/-- R135: a step that finds the closed switch made in the slide, and the part as its geometry leaves it. -/
def StepsIntoSlide (c : Instr) (d : Door) (s v : State) : Prop :=
  let p := stepTo s d .opening
  c = .encoderStep d .opening ∧ (s.chan d).state ≠ .unfitted ∧ StepCounts s d .opening ∧
  ClosedInSlide s d .opening ∧ ¬ ReachesLockZone s d p.val ∧ ¬ ReachesTarget s d p.val ∧
  s.asserted (.bflt d) = false ∧
  v = entered d (phaseAt s d (s.chan d).state p.val) (leafMoved d p s s)

/-- The record that doorway d has once its leaf is referenced (R42). -/
def referencedRecord (d : Door) (s : State) : Demand :=
  (s.modChan d (fun c => { c with referenced := true })).resolve d

/-- R42, R49, R50, R56: the reference is taken: the position is 0, the flag set, and the record that it gives is
delivered in the same event. With the pair made (`press` false) the doorway locks, else it presses the latch home;
where the record has become OPEN, LOCKED unlocks (at once, with a locked switch no longer made) and LOCKING leaves
for PLUG_OUT. No line hinders. -/
def References (d : Door) (press : Bool) (s t : State) : Prop :=
  let r := referencedRecord d s
  let opens : Prop := r.kind = .opens ∧ r ≠ s.demand d
  (t.chan d).position = 0 ∧ (t.chan d).band = 0 ∧ (t.chan d).referenced = true ∧
  (t.chan d).fault = (s.chan d).fault ∧ t.demand d = r ∧ OnlyDoor d s t ∧ NoNotice s t ∧ Sends d [] s t ∧
  ZeroRetry (t.guard d) ∧ (if press then SameReopen (s.guard d) (t.guard d) else ZeroReopen (t.guard d)) ∧
  if opens ∧ (press = true ∨ s.asserted (.lks d) = false) then
    Outputs (t.chan d) .plugOut (.driveOpen (s.cfg.openLevel d 0)) true .off ∧
    (t.chan d).threshold = s.cfg.openForce d 0 ∧
    Timers (t.chan d) none none (some (.opening, s.cfg.travelOpen d)) none none none ∧ Watching s d (t.guard d)
  else Resting (t.guard d) ∧
    if opens then
      Outputs (t.chan d) .unlocking .brake true .off ∧
      Timers (t.chan d) none none none (some (.first, s.cfg.unlockTime d)) none none
    else if press then
      Outputs (t.chan d) .locking (.driveClose (s.cfg.pressLevel d)) false .on ∧
      Timers (t.chan d) none none none none (some (s.cfg.lockTime d)) none
    else Outputs (t.chan d) .locked .free false .off ∧ Untimed (t.chan d)

/-- R50, R55: what an entry into UNREFERENCED leads to, no handle pulled and no bridge fault. -/
def Settles (d : Door) (s t : State) : Prop :=
  if PairMade d s then References d false s t
  else
    SameReopen (s.guard d) (t.guard d) ∧ SameRetry (s.guard d) (t.guard d) ∧ Plain d [] s t ∧
    if KeepsWaiting (s.demand d) then
      Outputs (t.chan d) .unreferenced .free false .off ∧ Untimed (t.chan d) ∧ Resting (t.guard d)
    else
      Outputs (t.chan d) .warning .brake false (.flashing true) ∧ Resting (t.guard d) ∧
      Timers (t.chan d) (some (if (s.guard d).reopenCount = 0 then s.cfg.warnTime else s.cfg.recloseWarn))
        none none none none none

/-! ### Parameters in range (R8, R9, R13, R16) -/

/-- A lifetime: unlimited, or 1 to 6000 tenths (R8). -/
abbrev LifetimeOk (w : Half) : Prop := w = 0xFFFF#16 ∨ (1 ≤ w.toNat ∧ w.toNat ≤ 6000)

/-- The lifetime that a wire value gives. -/
def lifetimeIn (w : Half) : Option Nat := if w = 0xFFFF#16 then none else some w.toNat

/-- An open limit: absent, or a position 0 to 1023 (Table 8-3). -/
abbrev LimitOk (w : Half) : Prop := w = 0xFFFF#16 ∨ w.toNat ≤ 1023

/-- The open limit that a wire value gives. -/
def limitIn (w : Half) : Option Nat := if w = 0xFFFF#16 then none else some w.toNat

/-- Every doorway of a scope is fitted. -/
abbrev ScopeFitted (s : State) (sc : DoorSet) : Prop := ∀ d : Door, has sc d = true → s.fitted d = true

/-- R9: start-on-arrival, open limit and retire-when-locked of a hold of a kind over a scope. -/
abbrev OptionalOk (s : State) (k : HoldKind) (sc : DoorSet) (waiting : Bool) (limit : Option Nat) (rwl : Bool) :
    Prop :=
  (waiting = true → k = .opens ∧ ∃ d : Door, sc = single d) ∧
  (∀ l ∈ limit, k = .opens ∧ ∀ d : Door, has sc d = true → s.cfg.plugPoint d + 1 ≤ l ∧ l ≤ s.cfg.openEnd d) ∧
  (rwl = true → k = .closes ∨ k = .isolate)

/-- The first check of R13, from check 2 on, that a PLACE fails; none when it passes. -/
def placeRefusal (x : Issuer) (q : PlaceParams) (s : State) : Option Result :=
  match kindOfByte q.kind with
  | none => some .badRequest
  | some k =>
    if q.scope = 0#8 ∨ 8 ≤ q.level.toNat ∨ ¬ LifetimeOk q.lifetime ∨ ¬ LimitOk q.openLimit then some .badRequest
    else if k ∉ kindsColumn x then some .notPermitted
    else if capColumn x < q.level.toNat then some .levelDenied
    else if ¬ ScopeFitted s q.scope ∨
      ¬ OptionalOk s k q.scope (q.options.getLsbD 0) (limitIn q.openLimit) (q.options.getLsbD 1)
    then some .badRequest
    else if quotaColumn x ≤ s.liveCount x then some .quota
    else if ∀ i : SlotNo, isPool i = true → (s.hold i).isSome = true then some .tableFull
    else none

/-- The hold as an AMEND asks for it (R16): a field not marked is kept. -/
def amended (q : AmendParams) (h : Hold) : Hold :=
  { h with
    level := if q.marks.getLsbD 0 then Fin.ofNat 8 q.level.toNat else h.level
    scope := if q.marks.getLsbD 1 then q.scope else h.scope
    limit := if q.marks.getLsbD 2 then limitIn q.openLimit else h.limit
    rwl := if q.marks.getLsbD 3 then q.rwl == 1#8 else h.rwl
    tag := if q.marks.getLsbD 4 then q.tag else h.tag }

/-- Check 3 of R16, R17 and R19 (R5), and what follows it on a live hold. -/
def onHandle (s : State) (hd : Handle) (f : SlotNo → Hold → Option Reply) : Option Reply :=
  match s.resolveHandle hd with
  | .stale => some { result := .stale, payload := [] }
  | .retired r => some { result := .retired, payload := [reasonCode r] }
  | .live i h => f i h

/-- A refusal without detail. -/
def refusal (r : Result) : Option Reply := some { result := r, payload := [] }

/-- The first check of R16, from check 2 on, that an AMEND fails. -/
def amendRefusal (x : Issuer) (q : AmendParams) (s : State) : Option Reply :=
  if (q.marks.getLsbD 0 = true ∧ 8 ≤ q.level.toNat) ∨ (q.marks.getLsbD 1 = true ∧ q.scope = 0#8) ∨
    (q.marks.getLsbD 2 = true ∧ ¬ LimitOk q.openLimit) ∨ (q.marks.getLsbD 3 = true ∧ 2 ≤ q.rwl.toNat)
  then refusal .badRequest
  else onHandle s q.handle (fun _ h =>
    if h.issuer ≠ x then refusal .notPermitted
    else if q.marks.getLsbD 0 = true ∧ capColumn x < q.level.toNat then refusal .levelDenied
    else if ¬ ScopeFitted s (amended q h).scope ∨
      ¬ OptionalOk s h.kind (amended q h).scope (h.countdown == .waiting) (amended q h).limit (amended q h).rwl
    then refusal .badRequest
    else none)

/-- The first check of R17, from check 2 on, that a RENEW fails. -/
def renewRefusal (x : Issuer) (hd : Handle) (l : Half) (s : State) : Option Reply :=
  if ¬ LifetimeOk l then refusal .badRequest
  else onHandle s hd (fun _ h => if h.issuer ≠ x then refusal .notPermitted else none)

/-- The first check of R19, from check 3 on, that a RETIRE fails. -/
def retireRefusal (x : Issuer) (hd : Handle) (s : State) : Option Reply :=
  onHandle s hd (fun i h =>
    if x ∉ retirersColumn h.issuer then refusal .notPermitted
    else if h.issuer = .hdl ∧ ∃ d : Door, i = hdlSlot d ∧ s.asserted (.hdl d) = true
    then refusal .handleActive
    else none)

/-- R26: every doorway of a scope is proven at the Car Loop Unit (log 23). -/
abbrev Proven (s : State) (sc : DoorSet) : Prop := ∀ d : Door, has sc d = true → (s.cluDoor d).proven = true

/-- The slot of a hold retired FULFILLED (R18, R26). -/
def fulfilledSlot (s : State) (i : SlotNo) (x : Issuer) : Slot :=
  { hold := none, generation := (s.slot i).generation + 1#8, lastReason := some .fulfilled
    mark := if isPool i then some x else (s.slot i).mark }

/-- A hold put into slot i, with what the slot is then, unless R26 finds it fulfilled at once. -/
def HoldsOrFulfils (i : SlotNo) (h : Hold) (x : Slot) (s t : State) : Prop :=
  (∀ j, j ≠ i → t.slot j = s.slot j) ∧
  if h.rwl = true ∧ Proven s h.scope then
    t.slot i = fulfilledSlot s i h.issuer ∧
    (isPool i = true → (t.port (if h.issuer = .trn then .t else .s)).kinds.getLsbD 1 = true)
  else t.slot i = { x with hold := some h }

/-! ### Payloads -/

/-- R8: a remaining lifetime that may be answered for a hold. -/
def RemainingOk (h : Hold) (r : Option Nat) : Prop :=
  match h.lifetime with
  | none => r = none
  | some l => if h.countdown = .waiting then r = some l else ∃ n, r = some n ∧ 1 ≤ n ∧ (1 ≤ l → n ≤ l)

/-- Table 11-4: the 15 bytes of a hold record. -/
def IsRecord (h : Hold) (b : List Byte) : Prop :=
  ∃ r, RemainingOk h r ∧
    b = [h.handle.epoch, h.handle.slot, h.handle.generation, issuerCode h.issuer, kindCode h.kind, h.scope,
         BitVec.ofNat 8 h.level.val] ++ optBytes r ++ [if h.countdown = .waiting then 1#8 else 0#8] ++
        optBytes h.limit ++ [if h.rwl then 1#8 else 0#8] ++ halfBytes h.tag

/-- R5, Table 1-2, with the payload of LOOKUP (Table 11-3). -/
def LookupPayload (s : State) (hd : Handle) (b : List Byte) : Prop :=
  if hs : hd.epoch = s.epoch ∧ hd.slot.toNat < 64 then
    let x := s.slot ⟨hd.slot.toNat, hs.2⟩
    match x.hold with
    | some h => if h.handle.generation = hd.generation then ∃ r, IsRecord h r ∧ b = 0#8 :: r else b = [2#8]
    | none =>
      match x.lastReason with
      | some r => if x.generation = hd.generation + 1#8 then b = [1#8, reasonCode r] else b = [2#8]
      | none => b = [2#8]
  else b = [2#8]

/-- R29: the occupied slots that pass a survey's filters, from its starting slot on. -/
def matching (s : State) (start issuer kind : Byte) : List SlotNo :=
  slotNos.filter (fun i => match s.hold i with
    | none => false
    | some h => decide (start.toNat ≤ i.val) && (issuer == 0xFF#8 || issuerCode h.issuer == issuer) &&
        (kind == 0xFF#8 || kindCode h.kind == kind))

/-- Table 11-5: the 22 bytes of a DOORWAY_REPORT entry. Bytes and bits without content are free (log 10). -/
def IsEntry (s : State) (d : Door) (e : List Byte) : Prop :=
  let c := s.chan d
  let r := s.demand d
  let g := s.guard d
  let at_ := fun n => e.getD n 0#8
  e.length = 22 ∧ at_ 0 = BitVec.ofNat 8 d.val ∧ at_ 1 = chStateCode c.state ∧
  (at_ 2).getLsbD 0 = s.asserted (.cls d) ∧ (at_ 2).getLsbD 1 = s.asserted (.lks d) ∧
  ((at_ 2) >>> 4) &&& 3#8 = (driveCode c.drive).1 ∧ at_ 3 = (driveCode c.drive).2 ∧
  [at_ 4, at_ 5] = optBytes (if c.referenced then some c.position.val else none) ∧
  (at_ 6) &&& 3#8 = demandCode r.kind ∧ (at_ 6).getLsbD 2 = r.released ∧ (at_ 6).getLsbD 3 = r.blocked ∧
  (at_ 6).getLsbD 4 = r.gov.isSome ∧ (∀ h, r.gov = some h → [at_ 7, at_ 8, at_ 9] = handleBytes h) ∧
  [at_ 10, at_ 11] = optBytes r.target ∧ at_ 12 = BitVec.ofNat 8 g.reopenCount ∧
  (at_ 13) &&& 3#8 = obsCode g.lastCause ∧
  (∀ q b, g.capturedPos = some q → g.capturedBand = some b → ((at_ 13) >>> 4) &&& 7#8 = BitVec.ofNat 8 b.val) ∧
  [at_ 14, at_ 15] = optBytes (g.capturedPos.map (fun q => q.val)) ∧
  (at_ 16) &&& 3#8 = BitVec.ofNat 8 g.openRetry.val ∧ (at_ 16).getLsbD 7 = g.openExhausted ∧
  (c.fault = none → (at_ 17) &&& 15#8 = 0#8 ∧ [at_ 18, at_ 19] = [0xFF#8, 0xFF#8] ∧ (at_ 21) &&& 15#8 = 0#8) ∧
  (∀ f, c.fault = some f →
    (at_ 17) &&& 15#8 = (faultCode f.first).1 ∧ ((at_ 17) >>> 4) &&& 3#8 = (faultCode f.first).2 ∧
    [at_ 18, at_ 19] = optBytes (f.firstPosition.map (fun q => q.val)) ∧ at_ 20 = chStateCode f.firstState ∧
    (f.later = none → (at_ 21) &&& 15#8 = 0#8) ∧
    (∀ l, f.later = some l → (at_ 21) &&& 15#8 = (faultCode l).1 ∧ ((at_ 21) >>> 4) &&& 3#8 = (faultCode l).2))

/-- A byte in which bit d says that a property holds of doorway d (R182). -/
def IsSet (f : Door → Bool) (b : Byte) : Prop := ∀ d : Door, b.getLsbD d.val = f d

/-- Table 11-6: the 27 bytes of a CAR_REPORT. Bits without content are free (log 10). The codes of byte 7 are the model's
choice (log 45). -/
def IsCarReport (s : State) (sup : Port → Supervision) (e : List Byte) : Prop :=
  let at_ := fun n => e.getD n 0#8
  e.length = 27 ∧ at_ 0 = (if s.mode = .run then 1#8 else 0#8) ∧ at_ 1 = resetCauseCode s.resetCause ∧
  at_ 2 = s.epoch ∧ at_ 3 = (if s.source = .defaults then 1#8 else 0#8) ∧
  at_ 4 = (if s.clu.loop then 1#8 else 0#8) ∧ at_ 5 = provingCode s.clu.stage ∧
  (s.clu.stage ≠ .proving → at_ 6 = 0xFF#8) ∧
  (s.clu.stage = .proving → (at_ 6).toNat ≤ s.cfg.proveTime) ∧
  at_ 7 = (if s.clu.movingUnproven then 1#8 else 0#8) ∧
  (at_ 8).getLsbD 0 = s.asserted .relL ∧ (at_ 8).getLsbD 1 = s.asserted .relR ∧
  (at_ 8).getLsbD 2 = s.asserted .zspd ∧ (at_ 8).getLsbD 3 = s.asserted .mkey ∧
  IsSet (fun d => s.asserted (.btn d)) (at_ 9) ∧ IsSet (fun d => s.asserted (.hdl d)) (at_ 10) ∧
  IsSet (fun d => s.asserted (.edge d)) (at_ 11) ∧ IsSet (fun d => s.asserted (.cls d)) (at_ 12) ∧
  IsSet (fun d => s.asserted (.lks d)) (at_ 13) ∧ IsSet (fun d => s.asserted (.frc d)) (at_ 14) ∧
  IsSet (fun d => s.asserted (.bflt d)) (at_ 15) ∧
  (at_ 16).getLsbD 0 = s.panelLeft ∧ (at_ 16).getLsbD 1 = s.panelRight ∧
  at_ 17 = supCode (sup .t) ∧ at_ 18 = supCode (sup .s) ∧
  [at_ 19, at_ 20, at_ 21, at_ 22, at_ 23, at_ 24, at_ 25] =
    [Issuer.trn, .atd, .mnt, .rln, .pnl, .grd, .hdl].map (fun x => BitVec.ofNat 8 (s.liveCount x)) ∧
  at_ 26 = BitVec.ofNat 8 s.freePool

/-- The state of a port that an arriving good request leaves (R170). -/
def supAfter (p : Port) (s : State) (q : Port) : Supervision :=
  if q = p ∧ s.cfg.supTime p ≠ 0 then .active else (s.port q).sup

/-! ### Starts (R181) -/

/-- Every block at its start values under the loaded configuration (R30, R32, R77, R79, R115, R128, R175). -/
def StartValues (s t : State) : Prop :=
  (∀ i, t.slot i = { hold := none, generation := 0#8, lastReason := none, mark := none }) ∧
  (∀ d, t.demand d = { kind := .closes, gov := none, target := none, released := false, blocked := false }) ∧
  (∀ d, (t.chan d).state = (if t.fitted d then .unreferenced else .unfitted) ∧ (t.chan d).drive = .free ∧
    (t.chan d).solenoid = false ∧ (t.chan d).lamp = .off ∧ (t.chan d).position = 0 ∧
    (t.chan d).referenced = false ∧ (t.chan d).band = 0 ∧ Untimed (t.chan d) ∧ (t.chan d).plaus = none ∧
    (t.chan d).fault = none ∧ (t.chan d).encA = (s.chan d).encA ∧ (t.chan d).encB = (s.chan d).encB) ∧
  (∀ d, t.guard d = { reopenCount := 0, lastCause := none, capturedPos := none, capturedBand := none
                      openRetry := 0, openExhausted := false, stage := .idle, stallTimer := none
                      blank := 0, reliefSteps := 0 }) ∧
  (∀ l, t.filter l = { pin := (s.filter l).pin, level := (s.filter l).pin, count := 0 }) ∧
  t.panelLeft = false ∧ t.panelRight = false ∧ t.chime0 = false ∧ t.chime1 = false ∧
  (∀ d, t.cluDoor d = { cls := (t.filter (.cls d)).level, lks := (t.filter (.lks d)).level
                        chState := (t.chan d).state, proven := false }) ∧
  t.clu.zspd = (t.filter .zspd).level ∧ t.clu.stage = .unproven ∧ t.clu.timer = none ∧ t.clu.loop = false ∧
  t.clu.movingUnproven = false ∧
  (∀ p, t.port p =
    { rx := none, awaitHigh := false, slot := .free, buffer := none, overrun := false, sup := .unsupervised
      supTimer := none, line := t.cfg.settings p, kinds := 1#8, standing := 0#8, fault := 0#8, egress := 0#8
      mask := 0#8, attention := true })

/-- R178: the geometry of a doorway, checked where it is fitted. -/
abbrev DoorPasses (im : Image) (d : Door) : Prop :=
  im.fitted d = true →
    im.plugPoint d + 16 ≤ im.openEnd d ∧ im.edgeMute d < im.plugPoint d ∧ im.lockWindow d < im.plugPoint d

/-- R178: the cross-checks. -/
abbrev CrossChecks (im : Image) : Prop := (∀ d, DoorPasses im d) ∧ ∃ d, im.fitted d = true

/-- R180: a part held by its reset line, or without supply: nothing driven, the loop open, the ports silent, the
attention lines off, a store and a start ended; the table, the records and the configuration stand. A store cut
short leaves a bad image (R177), a start cut short the old epoch cell or the new one (R181). -/
def Held (s t : State) : Prop :=
  t.running = false ∧
  (∀ d, t.chan d = { s.chan d with drive := .free, solenoid := false, lamp := .off }) ∧
  t.chime0 = false ∧ t.chime1 = false ∧ t.clu.loop = false ∧ t.clu.stage = .unproven ∧ t.store = none ∧
  (∀ p, (t.port p).slot = .free ∧ (t.port p).rx = none ∧ (t.port p).awaitHigh = false ∧
    (t.port p).attention = false) ∧
  t.cfg = s.cfg ∧ t.slots = s.slots ∧ t.demands = s.demands ∧
  t.guards = s.guards ∧ t.lines = s.lines ∧ t.mode = s.mode ∧ t.epoch = s.epoch ∧ t.source = s.source ∧
  t.panelLeft = s.panelLeft ∧ t.panelRight = s.panelRight ∧ t.resetCause = s.resetCause ∧
  (s.store = none → t.stored = s.stored) ∧
  (s.store ≠ none → t.stored.crc ≠ crc8 t.stored.image.bytes) ∧
  t.epochOld = none ∧ (s.epochOld = none → t.epochCell = s.epochCell) ∧
  (∀ old, s.epochOld = some old → t.epochCell = old ∨ t.epochCell = s.epochCell)

/-- The events that the entry into RUN hands out (R179). -/
def runEvents (s : State) : List Instr :=
  (doors.filter (fun d => s.fitted d)).map Instr.channelRunEntry ++ [Instr.lineInputRunEntry]

/-- R181: a start from a part with no store in flight. What the epoch cell held before it is kept, since a reset or
a loss of supply that comes next may have cut it short (log 11). -/
def StartedBy (cause : ResetCause) (s t : State) : Prop :=
  t.resetCause = cause ∧ t.epochCell = s.epochCell + 1#8 ∧ t.epoch = s.epochCell + 1#8 ∧
  t.epochOld = some s.epochCell ∧
  t.stored = s.stored ∧ t.store = none ∧ t.pending = s.pending ∧
  (s.stored.crc = crc8 s.stored.image.bytes → t.cfg = s.stored.image ∧ t.source = .stored) ∧
  (s.stored.crc ≠ crc8 s.stored.image.bytes → t.cfg = Image.defaults ∧ t.source = .defaults) ∧
  t.pwm = t.cfg.pwm ∧ StartValues s t ∧
  (t.source = .stored ∧ t.cfg.autorun = true ∧ CrossChecks t.cfg → t.mode = .run ∧ t.sent = runEvents t) ∧
  (¬ (t.source = .stored ∧ t.cfg.autorun = true ∧ CrossChecks t.cfg) → t.mode = .configure ∧ t.sent = [])

/-! ### What the lines send (Chapter 5) -/

/-- R106: an asserted release line places its RLN hold and raises the PNL holds of its side. -/
def releaseSends (sd : Side) : List Instr :=
  .internalPlacement { issuer := .rln, slot := rlnSlot sd, level := 7, lifetime := none, waiting := false, limit := none } ::
  (doors.filter (fun d => sideOf d == sd)).map (fun d => .raise (pnlSlot d))

/-- R112: the HDL placement of a handle pulled, dormant while the car moves under EGRESS_INHIBIT_MOVING. -/
def handleSend (d : Door) (s : State) : Instr :=
  .internalPlacement
    { issuer := .hdl, slot := hdlSlot d
      level := if s.asserted .zspd = false ∧ s.cfg.egressInhibitMoving = true then 0 else 7
      lifetime := none, waiting := false, limit := none }

/-- Table 5-2: the PNL placement of a press on an enabled panel: a dwell while the side is released, else a
remembered press, or nothing where BUTTON_MEMORY is off. -/
def pressSends (d : Door) (s : State) : List Instr :=
  if s.asserted (match sideOf d with
    | .left => .relL
    | .right => .relR) = true then
    [.internalPlacement { issuer := .pnl, slot := pnlSlot d, level := s.cfg.buttonLevel
                          lifetime := some s.cfg.buttonDwell, waiting := true, limit := none }]
  else if s.cfg.buttonMemory = 0 then []
  else
    [.internalPlacement { issuer := .pnl, slot := pnlSlot d, level := 0, lifetime := some s.cfg.buttonMemory
                          waiting := false, limit := none }]

/-- What the acceptance of a level sends (R105 to R112). -/
def acceptanceEvents (l : Line) (lv : Level) (s : State) : List Instr :=
  let on : Bool := decide (lv = s.cfg.activeLevel (classOf l))
  let run : Bool := decide (s.mode = .run)
  match l with
  | .relL => if run then (if on then releaseSends .left else [.lineDroppedRetirement .left]) else []
  | .relR => if run then (if on then releaseSends .right else [.lineDroppedRetirement .right]) else []
  | .zspd => .zspdAtClu lv :: (if run && on then doors.map (fun d => .raise (hdlSlot d)) else [])
  | .mkey => []
  | .btn d =>
    if s.fitted d && run && on && (match sideOf d with
      | .left => s.panelLeft
      | .right => s.panelRight) then pressSends d s else []
  | .hdl d => if s.fitted d && run && on then [handleSend d s] else []
  | .edge d => if s.fitted d then [.edgeAcceptedAtGuard d lv] else []
  | .cls d => if s.fitted d then [.clsAcceptedAtChannel d lv, .provenFlagUpdate d .closed lv] else []
  | .lks d => if s.fitted d then [.lksAcceptedAtChannel d lv, .provenFlagUpdate d .locked lv] else []
  | .frc d => if s.fitted d then [.frcAcceptedAtGuard d lv] else []
  | .bflt d => if s.fitted d then [.bfltAcceptedAtChannel d lv] else []

end Sys2Proof.Claims

open Sys2Proof Sys2Proof.Machine Sys2Proof.Safety Sys2Proof.Claims

/-! ### The machine -/

/-- A step takes the command at the front of the queue and runs it with the queue's rest. -/
def Obligations.StepRunsFrontCommand : Prop :=
  ∀ (c : Instr) (rest : List Instr) (s : State),
    step { s with pending := c :: rest } = exec c { s with pending := rest }

/-- On an empty queue the oldest event sent between blocks is taken; with none the part idles (the model's
choice, log 7). An event that is not outstanding does nothing (log 8). -/
def Obligations.EventsBetweenBlocksAreTakenInTurn : Prop :=
  (∀ s : State, s.pending = [] →
     (s.sent = [] → step s = .next s) ∧ (∀ e es, s.sent = e :: es → step s = exec e s)) ∧
  (∀ (c : Instr) (s : State), route c ≠ none → s.running = true → s.takeSent c = none →
     exec c s = .next s.settle)

/-- Every command completes, in every state, and leaves the queue alone (the model's reading: nothing stops the part,
log 35; an event that is not outstanding and an expiry of a timer that does not run do nothing, log 8; a held part
takes nothing, log 13). -/
def Obligations.EveryCommandCompletes : Prop :=
  ∀ (c : Instr) (s : State), ∃ t, exec c s = .next t ∧ t.pending = s.pending

/-- The state after reset has every block at its start values, in CONFIGURE, with reset cause POWER_ON. What the
epoch cell held before the power-on start is the model's choice (log 2), so are the codes of stop bits and PWM frequency in the defaults (log 46). -/
def Obligations.ResetHasStartValues : Prop :=
  StartValues State.reset State.reset ∧ State.reset.mode = .configure ∧ State.reset.resetCause = .powerOn ∧
  State.reset.cfg = Image.defaults ∧ State.reset.source = .defaults ∧ State.reset.store = none ∧
  State.reset.pending = [] ∧ State.reset.sent = [] ∧ State.reset.epochCell = 0#8 ∧
  State.reset.epochOld = some 0xFF#8

/-- Every invariant of Safety.lean holds at reset. -/
def Obligations.InvariantsHoldAtReset : Prop :=
  TableOk State.reset ∧ QuotasOk State.reset ∧ ConfigureQuiet State.reset ∧ LoopOk State.reset ∧
  LinkOk State.reset ∧ SignalsOk State.reset ∧ OutputsOk State.reset ∧ DemandsOk State.reset ∧
  ObstructionOk State.reset ∧ ConfigOk State.reset

/-! ### Requests at a port -/

/-- R145 checks 2 and 3: a request whose issuer Table 8-1 does not name is answered NOT_PERMITTED, in either
mode; one of a permitted issuer in a mode that Table 8-1 does not name is answered MODE. -/
def Obligations.SenderThenModeAreChecked : Prop :=
  (∀ (c : Instr) (p : Port) (k : RequestKind) (seq : Byte) (b : List Byte) (s : State),
     requestOf c = some (p, k, seq, b) → WellFormed c = true → Ready p s →
     issuerAt p s ∉ senderColumn k → JustAnswers c p k seq .notPermitted [] s) ∧
  (∀ (c : Instr) (p : Port) (k : RequestKind) (seq : Byte) (b : List Byte) (s : State),
     requestOf c = some (p, k, seq, b) → WellFormed c = true → Ready p s →
     issuerAt p s ∈ senderColumn k → s.mode ∉ modeColumn k → JustAnswers c p k seq .mode [] s)

/-- Table 9-1: a request that completes while the port is busy waits in an empty buffer, and is lost with the
overrun flag set at a full one. It is a good request either way (R166). -/
def Obligations.BusyPortBuffersOneRequest : Prop :=
  ∀ (c : Instr) (p : Port) (k : RequestKind) (seq : Byte) (b : List Byte) (s : State),
    requestOf c = some (p, k, seq, b) → WellFormed c = true → s.running = true → (s.port p).slot ≠ .free →
    ∃ t, exec c s = .next t ∧ (t.port p).slot = (s.port p).slot ∧ (t.port p).rx = none ∧
      (t.port p).line = (s.port p).line ∧ Supervised p s t ∧ AnswerAlone p s t ∧ t.free = s.free ∧
      ((s.port p).buffer = none →
        (t.port p).buffer = some { error := false, kind := k.code, seq := seq, params := b } ∧
        (t.port p).overrun = (s.port p).overrun) ∧
      ((s.port p).buffer ≠ none → (t.port p).buffer = (s.port p).buffer ∧ (t.port p).overrun = true)

/-- R166, R168, R145 check 1: the CRC character of a whole, undamaged body arrives as the request command of
the same bytes does. At a free port an undamaged message of unknown kind is answered BAD_REQUEST as a good
request; a damaged message or one whose CRC fails is answered LINE_ERROR under NAK_ON_ERROR, and is else
discarded silently; neither of these two is a good request. -/
def Obligations.CompleteMessagesAreClassed : Prop :=
  (∀ (c : Instr) (p : Port) (k : RequestKind) (seq : Byte) (b : List Byte) (ch : RxChar) (a : Assembly)
     (s : State),
     requestOf c = some (p, k, seq, b) → WellFormed c = true →
     (s.port p).rx = some a → a.len = some (b.length + 2) → a.body = k.code :: seq :: b → a.damage = false →
     charError (s.port p).line ch = false → ch.data = a.crc →
     exec (.messageCompletion p ch) s = exec c s ∧ exec (.characterReceived p ch) s = exec c s) ∧
  (∀ (p : Port) (ch : RxChar) (a : Assembly) (n : Nat) (k seq : Byte) (b : List Byte) (s : State),
     Ready p s → (s.port p).rx = some a → a.len = some n → a.body = k :: seq :: b → a.body.length = n →
     ∃ t, exec (.messageCompletion p ch) s = .next t ∧ exec (.characterReceived p ch) s = .next t ∧
       (if a.damage = true ∨ charError (s.port p).line ch = true ∨ ch.data ≠ a.crc then
         (t.port p).sup = (s.port p).sup ∧ (t.port p).supTimer = (s.port p).supTimer ∧ AnswerAlone p s t ∧
         (if s.cfg.nakOnError p = true then Answers p k seq .lineError [] s t
          else t.port p = { s.port p with
            rx := none, awaitHigh := breakHeard (s.port p).line ch, attention := (t.port p).attention })
        else k.toNat = 0 ∨ 20 < k.toNat → OnlyAnswers p k seq .badRequest [] s t))

/-- R165 whole: the CRC of a run of characters, its value over "123456789", its place in an answer sent, and
its comparison at the completion of a message: a mismatch is never taken as a request, and a match without a
character error is. -/
def Obligations.CrcIsTheShiftRegister : Prop :=
  crc8 [] = 0x00#8 ∧
  (∀ (bs : List Byte) (b : Byte), crc8 (bs ++ [b]) =
    Nat.iterate (fun r => if r.getLsbD 7 then (r <<< 1) ^^^ 0x07#8 else r <<< 1) 8 (crc8 bs ^^^ b)) ∧
  crc8 [0x31#8, 0x32#8, 0x33#8, 0x34#8, 0x35#8, 0x36#8, 0x37#8, 0x38#8, 0x39#8] = 0xF4#8 ∧
  (∀ (p : Port) (s : State) (a : Answer) (r : Bool), (s.port p).slot = .sending a r →
    s.transmitting p = [0xA5#8, BitVec.ofNat 8 a.body.length] ++ a.body ++
      [crc8 (BitVec.ofNat 8 a.body.length :: a.body)]) ∧
  (∀ (p : Port) (ch : RxChar) (s : State) (a : Assembly) (n : Nat), s.running = true →
    (s.port p).rx = some a → a.len = some n → a.body.length = n → 2 ≤ n →
    a.crc = crc8 (BitVec.ofNat 8 n :: a.body) → a.damage = false → charError (s.port p).line ch = false →
    s.cfg.nakOnError p = true → (s.port p).slot ≠ .free → (s.port p).buffer = none →
    ∃ t, exec (.messageCompletion p ch) s = .next t ∧
      (t.port p).buffer = some
        { error := decide (ch.data ≠ crc8 (BitVec.ofNat 8 n :: a.body)), kind := a.body.getD 0 0#8
          seq := a.body.getD 1 0#8, params := a.body.drop 2 })

/-- R156 whole: PRESENCE without parameters is answered OK in either mode, keeps supervision alive, reports
and clears the overrun flag, and acts on no block; with parameters it is refused BAD_REQUEST. -/
def Obligations.PresenceActsOnNothing : Prop :=
  (∀ (p : Port) (seq : Byte) (s : State), Ready p s → JustAnswers (.presence p seq) p .presence seq .ok [] s) ∧
  (∀ (p : Port) (seq : Byte) (b : List Byte) (ch : RxChar) (a : Assembly) (s : State), Ready p s →
    b ≠ [] → (s.port p).rx = some a → a.len = some (b.length + 2) → a.body = 0x01#8 :: seq :: b →
    a.damage = false → charError (s.port p).line ch = false → ch.data = a.crc →
    JustAnswers (.messageCompletion p ch) p .presence seq .badRequest [] s)

/-- R170: a loss of the port that the table has not yet taken is taken before the port's next request, whichever it
is, executes: the request is then carried out on the part that the loss leaves, ready for it (the order is the
model's choice, log 20). -/
def Obligations.LossIsTakenBeforeTheNextRequest : Prop :=
  ∀ (c : Instr) (p : Port) (k : RequestKind) (seq : Byte) (b : List Byte) (s : State),
    requestOf c = some (p, k, seq, b) → WellFormed c = true → s.running = true → (s.port p).slot = .free →
    s.sent.contains (.linkLost p) = true →
    let s1 := { s with sent := s.sent.filter (fun e => e != .linkLost p) }
    ∃ u t, TableEvent s u ∧ Retires (heldBy p) .linkLost false s u ∧ RetiredNotices (heldBy p) s u ∧
      DoorsFollow (inScopes (heldBy p) s) s1 u ∧ Ready p u ∧ exec c u = .next t ∧ exec c s = .next t

/-! ### Hold requests (Chapter 1) -/

/-- R13 to R19: PLACE, AMEND, RENEW, RETIRE and WITHDRAW in RUN are refused by the first check that fails, and
a refusal changes nothing else. -/
def Obligations.HoldRequestsAreRefusedInOrder : Prop :=
  ∀ (p : Port) (seq : Byte) (s : State), Ready p s → s.mode = .run →
    (∀ q : PlaceParams, q.options &&& 0xFC#8 ≠ 0#8 → JustAnswers (.place p seq q) p .place seq .badRequest [] s) ∧
    (∀ (q : PlaceParams) (r : Result), q.options &&& 0xFC#8 = 0#8 → placeRefusal (issuerAt p s) q s = some r →
      JustAnswers (.place p seq q) p .place seq r [] s) ∧
    (∀ q : AmendParams, q.marks &&& 0xE0#8 ≠ 0#8 → JustAnswers (.amend p seq q) p .amend seq .badRequest [] s) ∧
    (∀ (q : AmendParams) (r : Reply), q.marks &&& 0xE0#8 = 0#8 → amendRefusal (issuerAt p s) q s = some r →
      JustAnswers (.amend p seq q) p .amend seq r.result r.payload s) ∧
    (∀ (hd : Handle) (l : Half) (r : Reply), renewRefusal (issuerAt p s) hd l s = some r →
      JustAnswers (.renew p seq hd l) p .renew seq r.result r.payload s) ∧
    (∀ (hd : Handle) (r : Reply), retireRefusal (issuerAt p s) hd s = some r →
      JustAnswers (.retire p seq hd) p .retire seq r.result r.payload s) ∧
    (∀ k : Byte, k ≠ 0xFF#8 → 5 ≤ k.toNat → JustAnswers (.withdraw p seq k) p .withdraw seq .badRequest [] s)

/-- R3, R13, R25, R26: a PLACE that passes puts the hold into the lowest free pool slot i, under the slot's
generation, and is answered with its handle; a fulfilled hold leaves at once. -/
def Obligations.PlaceCreatesHold : Prop :=
  ∀ (p : Port) (seq : Byte) (q : PlaceParams) (k : HoldKind) (i : SlotNo) (s : State), Ready p s → s.mode = .run →
    q.options &&& 0xFC#8 = 0#8 → placeRefusal (issuerAt p s) q s = none → kindOfByte q.kind = some k →
    isPool i = true → s.hold i = none → (∀ j, isPool j = true → j < i → s.hold j ≠ none) →
    let hd : Handle := { epoch := s.epoch, slot := BitVec.ofNat 8 i.val, generation := (s.slot i).generation }
    ∃ t, exec (.place p seq q) s = .next t ∧ Done p .place seq [hd.epoch, hd.slot, hd.generation] s t ∧
      t.free = s.free ∧ DoorsFollow (fun d => has q.scope d = true) s t ∧
      HoldsOrFulfils i
        { handle := hd, issuer := issuerAt p s, kind := k, scope := q.scope, level := Fin.ofNat 8 q.level.toNat
          lifetime := lifetimeIn q.lifetime, countdown := countdownFor s q.scope (q.options.getLsbD 0)
          limit := limitIn q.openLimit, rwl := q.options.getLsbD 1, tag := q.tag }
        { s.slot i with lastReason := none, mark := none } s t

/-- R16, R17, R25, R26, R41: with a sound table, an AMEND that passes replaces the marked fields of the live hold and
no other; a WAITING hold given a scope in a starting condition starts; a fulfilled hold leaves at once. A RENEW that
passes replaces the lifetime and nothing else; records that were the table's stay, and nothing is delivered. -/
def Obligations.AmendAndRenewChangeTheirFields : Prop :=
  (∀ (p : Port) (seq : Byte) (q : AmendParams) (i : SlotNo) (h : Hold) (s : State), Ready p s → s.mode = .run →
     TableOk s → q.marks &&& 0xE0#8 = 0#8 → amendRefusal (issuerAt p s) q s = none →
     s.resolveHandle q.handle = .live i h →
     ∃ t, exec (.amend p seq q) s = .next t ∧ Done p .amend seq [] s t ∧ t.free = s.free ∧
       DoorsFollow (fun d => has h.scope d = true ∨ has (amended q h).scope d = true) s t ∧
       HoldsOrFulfils i
         { amended q h with
           countdown := if q.marks.getLsbD 1 = true ∧ h.countdown = .waiting then countdownFor s q.scope true
             else h.countdown }
         (s.slot i) s t) ∧
  (∀ (p : Port) (seq : Byte) (hd : Handle) (l : Half) (i : SlotNo) (h : Hold) (s : State),
     Ready p s → s.mode = .run → renewRefusal (issuerAt p s) hd l s = none → s.resolveHandle hd = .live i h →
     ∃ t, exec (.renew p seq hd l) s = .next t ∧ Done p .renew seq [] s t ∧ t.free = s.free ∧
       t.slot i = { s.slot i with hold := some { h with lifetime := lifetimeIn l } } ∧
       (∀ j, j ≠ i → t.slot j = s.slot j) ∧ DoorsFollow (fun d => has h.scope d = true) s t ∧
       ((∀ d : Door, has h.scope d = true → s.fitted d = true → s.demand d = s.resolve d) →
         SameDoors s t ∧ t.sent = s.sent ∧ NoNotice s t))

/-- R18, R19, R20: a RETIRE that passes retires that hold alone with reason REQUESTED, reported to its port
unless its own issuer asked or its slot is a fixed one. A WITHDRAW retires every live hold of the asking issuer, or
those of one kind, reports none, and answers how many. -/
def Obligations.RetireAndWithdrawEndHolds : Prop :=
  (∀ (p : Port) (seq : Byte) (hd : Handle) (i : SlotNo) (h : Hold) (s : State), Ready p s → s.mode = .run →
     retireRefusal (issuerAt p s) hd s = none → s.resolveHandle hd = .live i h →
     ∃ t, exec (.retire p seq hd) s = .next t ∧ Done p .retire seq [] s t ∧ t.free = s.free ∧
       Retires (fun j _ => j = i) .requested (decide (h.issuer = issuerAt p s)) s t ∧
       (if h.issuer ≠ issuerAt p s ∧ isPool i = true then RetiredNotices (fun j _ => j = i) s t
        else NoRetiredNotice s t) ∧
       DoorsFollow (fun d => has h.scope d = true) s t) ∧
  (∀ (p : Port) (seq k : Byte) (s : State), Ready p s → s.mode = .run → k = 0xFF#8 ∨ k.toNat < 5 →
     let sel : SlotNo → Hold → Prop := fun _ h => h.issuer = issuerAt p s ∧ (k = 0xFF#8 ∨ kindCode h.kind = k)
     ∃ t, exec (.withdraw p seq k) s = .next t ∧
       Done p .withdraw seq [BitVec.ofNat 8 (slotNos.countP (fun i => (s.hold i).any (fun h =>
         h.issuer == issuerAt p s && (k == 0xFF#8 || kindCode h.kind == k))))] s t ∧
       t.free = s.free ∧ Retires sel .requested true s t ∧ NoRetiredNotice s t ∧
       DoorsFollow (inScopes sel s) s t)

/-- R5, R28, R29: LOOKUP answers how a handle resolves, with the record of a live hold. SURVEY answers the
first eight matching holds in slot order and the slot to go on from, or refuses a start slot or a filter out
of range. -/
def Obligations.LookupAndSurveyReadTheTable : Prop :=
  (∀ (p : Port) (seq : Byte) (hd : Handle) (s : State), Ready p s →
     ∃ b t, exec (.lookup p seq hd) s = .next t ∧ OnlyAnswers p RequestKind.lookup.code seq .ok b s t ∧
       LookupPayload s hd b) ∧
  (∀ (p : Port) (seq start issuer kind : Byte) (s : State), Ready p s →
     (if 64 ≤ start.toNat ∨ (issuer ≠ 0xFF#8 ∧ 7 ≤ issuer.toNat) ∨ (kind ≠ 0xFF#8 ∧ 5 ≤ kind.toNat)
      then JustAnswers (.survey p seq start issuer kind) p .survey seq .badRequest [] s
      else ∃ recs t, exec (.survey p seq start issuer kind) s = .next t ∧
        OnlyAnswers p RequestKind.survey.code seq .ok
          ([BitVec.ofNat 8 recs.length] ++ recs.flatten ++
           [BitVec.ofNat 8 (match (matching s start issuer kind)[7]? with
             | some i => i.val + 1
             | none => 64)]) s t ∧
        List.Forall₂ (fun i b => ∃ h, s.hold i = some h ∧ IsRecord h b)
          ((matching s start issuer kind).take 8) recs))

/-! ### Reports, notices, panel (Chapters 5, 8 and 9) -/

/-- R154, R155, Tables 11-5 and 11-6: DOORWAY_REPORT answers the entries of the doorways asked for, in
ascending order; CAR_REPORT answers the state of the part, the asking port with its own arrival. What has no content,
the first state of an absent fault record and the detail of an absent cause with it, is open (log 10, 42, 44). That
the moving-unproven indication is 1 for set is the model's choice (log 45). -/
def Obligations.ReportsAnswerThePart : Prop :=
  (∀ (p : Port) (seq : Byte) (sc : DoorSet) (s : State), Ready p s →
     (if sc = 0#8 then JustAnswers (.doorwayReport p seq sc) p .doorwayReport seq .badRequest [] s
      else ∃ es t, exec (.doorwayReport p seq sc) s = .next t ∧
        OnlyAnswers p RequestKind.doorwayReport.code seq .ok es.flatten s t ∧
        List.Forall₂ (IsEntry s) (doors.filter (fun d => has sc d)) es)) ∧
  (∀ (p : Port) (seq : Byte) (s : State), Ready p s →
     ∃ b t, exec (.carReport p seq) s = .next t ∧ OnlyAnswers p RequestKind.carReport.code seq .ok b s t ∧
       IsCarReport s (supAfter p s) b)

/-- R27, R157, R158, R173: COLLECT_NOTICES answers and clears the port's notices and the marked slots of its
issuers; NOTICE_MASK replaces the port's mask, and the attention line follows. -/
def Obligations.NoticesAreCollectedAndMasked : Prop :=
  (∀ (p : Port) (seq : Byte) (s : State), Ready p s →
     let mine : List SlotNo := slotNos.filter (fun i => isPool i && (s.slot i).mark.any (fun x =>
       match p with
       | .t => x == .trn
       | .s => x == .atd || x == .mnt))
     ∃ t, exec (.collectNotices p seq) s = .next t ∧ SameControl s t ∧ SameDoors s t ∧ SameLines s t ∧
       t.clu = s.clu ∧ t.sent = s.sent ∧ t.free = s.free ∧ (t.port p).mask = (s.port p).mask ∧
       SameLink (otherPort p) s t ∧ SameNotices (otherPort p) s t ∧ Supervised p s t ∧
       Answers p RequestKind.collectNotices.code seq .ok
         ([(s.port p).kinds, (s.port p).standing, (s.port p).fault, (s.port p).egress,
           BitVec.ofNat 8 mine.length] ++
          (mine.map (fun i => [s.epoch, BitVec.ofNat 8 i.val, (s.slot i).generation - 1#8,
            (s.slot i).lastReason.elim 0#8 reasonCode])).flatten) s t ∧
       (t.port p).kinds = 0#8 ∧ (t.port p).standing = 0#8 ∧ (t.port p).fault = 0#8 ∧ (t.port p).egress = 0#8 ∧
       (t.port p).attention = false ∧
       (∀ i, t.slot i = if i ∈ mine then { s.slot i with mark := none } else s.slot i)) ∧
  (∀ (p : Port) (seq : Byte) (m : KindSet) (s : State), Ready p s →
     ∃ t, exec (.noticeMask p seq m) s = .next t ∧ SameButPorts s t ∧ t.free = s.free ∧ SameNotices p s t ∧
       SameLink (otherPort p) s t ∧ SameNotices (otherPort p) s t ∧ Supervised p s t ∧
       Answers p RequestKind.noticeMask.code seq .ok [m] s t ∧ (t.port p).mask = m ∧
       (t.port p).attention = decide (∃ n : Fin 8, (s.port p).kinds.getLsbD n.val = true ∧ m.getLsbD n.val = false))

/-- R109: PANEL sets or clears the enable of one side and answers both; a disable sends the retirement of the
side's PNL holds. A side or an action out of range is refused. -/
def Obligations.PanelSetsEnable : Prop :=
  ∀ (p : Port) (seq side action : Byte) (s : State), Ready p s → s.mode = .run → issuerAt p s ≠ .mnt →
    (if 2 ≤ side.toNat ∨ 2 ≤ action.toNat then JustAnswers (.panel p seq side action) p .panel seq .badRequest [] s
     else ∃ b t, exec (.panel p seq side action) s = .next t ∧
       SameControl s t ∧ t.slots = s.slots ∧ SameDoors s t ∧ t.lines = s.lines ∧ t.clu = s.clu ∧
       SameNotices p s t ∧ (t.port p).mask = (s.port p).mask ∧
       SameLink (otherPort p) s t ∧ SameNotices (otherPort p) s t ∧ Supervised p s t ∧
       Answers p RequestKind.panel.code seq .ok [b] s t ∧
       t.panelLeft = (if side = 0#8 then decide (action = 1#8) else s.panelLeft) ∧
       t.panelRight = (if side = 1#8 then decide (action = 1#8) else s.panelRight) ∧
       b.getLsbD 0 = t.panelLeft ∧ b.getLsbD 1 = t.panelRight ∧
       t.sent = s.sent ++ (if action = 1#8 then []
         else [.panelOffRetirement (if side = 0#8 then .left else .right)]))

/-! ### Requests at the doorways (Chapters 4 and 7) -/

/-- R98, R132: CLEAR_OBSTRUCTION zeroes the record of each fitted doorway named. One in STANDING acts on its
demand, one in OPEN_BLOCKED retries at once under an OPEN demand; any other channel stands. An arrival sends its
countdown start, a changed channel state goes to the Car Loop Unit. A bridge line asserted is found at the entry, and a
force held asserted blocks the opening where BLANK_STEPS is 0. That all doorways act in one step is the model's
choice (log 33). -/
def Obligations.ClearObstructionZeroesRecords : Prop :=
  ∀ (p : Port) (seq : Byte) (sc : DoorSet) (s : State), Ready p s → s.mode = .run →
    (if sc = 0#8 then JustAnswers (.clearObstruction p seq sc) p .clearObstruction seq .badRequest [] s
     else ∃ b t, exec (.clearObstruction p seq sc) s = .next t ∧ Done p .clearObstruction seq [b] s t ∧
       t.slots = s.slots ∧ t.free = s.free ∧ IsSet (fun d => has sc d && s.fitted d) b ∧ OthersSend s t ∧
       ((∀ d : Door, has sc d = true → s.asserted (.bflt d) = false) → NoNotice s t) ∧
       ∀ d : Door, if has sc d = true ∧ s.fitted d = true then
         let z := s.modGuard d (fun g => { g with reopenCount := 0, lastCause := none, capturedPos := none
                                                  capturedBand := none, openRetry := 0, openExhausted := false })
         let st := (s.chan d).state
         let closing : Prop := (s.demand d).kind = .closes ∨ (s.demand d).kind = .isolated
         let found := fun (v : State) => Records d .bridge v t ∧ EntersFaulted d v t ∧
           (t.chan d).position = (s.chan d).position ∧
           t.sent.filter (fromDoor d) = (v.sent.filter (fromDoor d)).filter (fun c => !isGrdPlacement d c) ++
             [.channelEntryAtTable d .faulted, .channelStateAtClu d .faulted]
         (st ≠ .standing → st ≠ .openBlocked →
           t.chan d = s.chan d ∧ t.guard d = z.guard d ∧ t.demand d = s.demand d ∧ DoorSends d [] s t) ∧
         (st = .openBlocked → (s.demand d).kind ≠ .opens →
           t.chan d = { s.chan d with retryWait := none } ∧ t.guard d = z.guard d ∧ t.demand d = s.demand d ∧
           DoorSends d [] s t) ∧
         (st = .standing → closing → s.asserted (.bflt d) = false →
           Warns d z t ∧ ZeroRetry (t.guard d) ∧ t.demand d = s.demand d ∧ DoorSends d [] s t) ∧
         (st = .standing → closing → s.asserted (.bflt d) = true → (s.chan d).fault = none →
           found (entered d .warning z)) ∧
         (∀ tg ∈ (s.demand d).target, (s.demand d).kind = .opens → st = .standing ∨ st = .openBlocked →
           (s.asserted (.bflt d) = true → (s.chan d).fault = none → found (openedByPosition d tg z)) ∧
           (s.asserted (.bflt d) = false → t.demand d = s.demand d ∧ SameLeaf (s.chan d) (t.chan d) ∧
             if tg ≤ (s.chan d).position.val + s.cfg.endWindow d
             then Arrives d z t ∧ DoorSends d [.countdownStart d] s t
             else DoorSends d [] s t ∧ SameReopen (z.guard d) (t.guard d) ∧
               if Strained d s then
                 Outputs (t.chan d) .openBlocked .brake false .off ∧ Resting (t.guard d) ∧
                 Timers (t.chan d) none none none none none (some s.cfg.openRetryTime) ∧
                 (t.guard d).openRetry = 1 ∧ (t.guard d).openExhausted = false
               else Opens d (decide (s.cfg.plugPoint d ≤ (s.chan d).position.val)) z t))
         else DoorAs d s t)

/-- R141: CLEAR_FAULT clears the fault of each named doorway that is FAULTED, or in EGRESS with a record, and
whose bridge line is not asserted, and answers the sets cleared and persisting. A FAULTED doorway settles
from UNREFERENCED: with both switches made it takes its reference, and unlocks at once where its record has become
OPEN; one in EGRESS stays there. A changed channel state goes to the Car Loop Unit, nothing else is sent, and no
notice is raised. That all doorways act in one step is the model's choice (log 33). -/
def Obligations.ClearFaultClearsOrPersists : Prop :=
  ∀ (p : Port) (seq : Byte) (sc : DoorSet) (s : State), Ready p s → s.mode = .run → issuerAt p s ≠ .trn →
    let faulty : Door → Bool := fun d => has sc d && ((s.chan d).state == .faulted ||
      ((s.chan d).state == .egress && (s.chan d).fault.isSome))
    (if sc = 0#8 then JustAnswers (.clearFault p seq sc) p .clearFault seq .badRequest [] s
     else ∃ b1 b2 t, exec (.clearFault p seq sc) s = .next t ∧
       Answers p RequestKind.clearFault.code seq (if b2 = 0#8 then .ok else .faultPersists) [b1, b2] s t ∧
       Supervised p s t ∧ SameControl s t ∧ SameLines s t ∧ t.clu = s.clu ∧ t.slots = s.slots ∧ t.free = s.free ∧
       (t.port p).mask = (s.port p).mask ∧ SameLink (otherPort p) s t ∧
       IsSet (fun d => faulty d && !s.asserted (.bflt d)) b1 ∧
       IsSet (fun d => faulty d && s.asserted (.bflt d)) b2 ∧ OthersSend s t ∧ NoNotice s t ∧
       ∀ d : Door,
         (faulty d = false ∨ s.asserted (.bflt d) = true → DoorAs d s t) ∧
         (faulty d = true → s.asserted (.bflt d) = false →
           (t.chan d).fault = none ∧ ZeroReopen (t.guard d) ∧ ZeroRetry (t.guard d) ∧
           ((s.chan d).state = .egress → (t.chan d).state = .egress ∧ (t.chan d).drive = (s.chan d).drive ∧
             t.demand d = s.demand d) ∧
           ((s.chan d).state = .egress ∨ (s.chanInRun d = true ∧ (s.demand d).kind ≠ .egress) →
             DoorSends d [] s t) ∧
           ((s.chan d).state = .faulted → s.chanInRun d = true → (s.demand d).kind ≠ .egress →
             (PairMade d s → (t.chan d).referenced = true ∧ (t.chan d).position = 0 ∧
               t.demand d = referencedRecord d s ∧
               (t.chan d).state = if (referencedRecord d s).kind = .opens ∧ referencedRecord d s ≠ s.demand d
                 then .unlocking else .locked) ∧
             (¬ PairMade d s → t.demand d = s.demand d ∧
               (t.chan d).state = if KeepsWaiting (s.demand d) then .unreferenced else .warning))))

/-! ### Configuration requests, starts (Chapter 10) -/

/-- R159: CONFIG_READ answers the bytes of the working configuration, or refuses a count or span out of range.
A CONFIG_WRITE whose span leaves the layout is refused, and one that would leave a touched field out of its
range is answered CONFIG_INVALID with the lowest such field; the part stands. That each byte of a band is a field of
its own, and that bits 3 to 6 of a line class byte are out of range, is the model's reading (log 21); that stop bits
and PWM frequency hold codes from 0 is its choice (log 46). -/
def Obligations.ConfigSpansAreChecked : Prop :=
  (∀ (p : Port) (seq : Byte) (o : Half) (n : Byte) (s : State), Ready p s →
     (if 1 ≤ n.toNat ∧ n.toNat ≤ 32 ∧ o.toNat + n.toNat ≤ 445
      then JustAnswers (.configRead p seq o n) p .configRead seq .ok
        ((s.cfg.bytes.drop o.toNat).take n.toNat) s
      else JustAnswers (.configRead p seq o n) p .configRead seq .badRequest [] s)) ∧
  (∀ (p : Port) (seq : Byte) (o : Half) (l : List Byte) (s : State), Ready p s → s.mode = .configure →
     issuerAt p s = .mnt → l.length ≤ 27 →
     (l = [] ∨ 445 < o.toNat + l.length →
       JustAnswers (.configWrite p seq o l) p .configWrite seq .badRequest [] s) ∧
     (∀ f ∈ fields, l ≠ [] → o.toNat + l.length ≤ 445 → f.touched o.toNat l.length = true →
       f.ok (s.cfg.patch o.toNat l) = false →
       (∀ g ∈ fields, g.offset < f.offset → g.touched o.toNat l.length = true →
         g.ok (s.cfg.patch o.toNat l) = true) →
       JustAnswers (.configWrite p seq o l) p .configWrite seq .configInvalid
         [BitVec.ofNat 8 (f.offset / 256), BitVec.ofNat 8 f.offset] s))

/-- R159, R75, R104, R174: a CONFIG_WRITE that passes replaces the bytes; a changed FITTED sets its channel's
state, which goes to the Car Loop Unit; a changed filter code restarts its filters; a new code 0 accepts the pins that
differ, and hands the acceptances to their consumers; SUP_TIME 0 ends a supervision. That FITTED takes effect before
the filter codes is the model's choice (log 41), so is the order of the acceptances (log 22), that the count stands its
reading (log 32). What a field may hold rests on log 21 and, for stop bits and PWM frequency, on log 46. -/
def Obligations.ConfigWriteTakesEffect : Prop :=
  ∀ (p : Port) (seq : Byte) (o : Half) (l : List Byte) (s : State), Ready p s → s.mode = .configure →
    issuerAt p s = .mnt → l ≠ [] → l.length ≤ 27 → o.toNat + l.length ≤ 445 →
    (∀ f ∈ fields, f.touched o.toNat l.length = true → f.ok (s.cfg.patch o.toNat l) = true) →
    ∃ t, exec (.configWrite p seq o l) s = .next t ∧ Answers p RequestKind.configWrite.code seq .ok [] s t ∧
      t.cfg.bytes = s.cfg.bytes.take o.toNat ++ l ++ s.cfg.bytes.drop (o.toNat + l.length) ∧
      t.mode = .configure ∧ t.source = s.source ∧ t.stored = s.stored ∧ t.store = s.store ∧ t.pwm = s.pwm ∧
      t.epoch = s.epoch ∧ t.slots = s.slots ∧ t.guards = s.guards ∧ t.demands = s.demands ∧ t.free = s.free ∧
      SameNotices p s t ∧ (t.port p).mask = (s.port p).mask ∧
      SameNotices (otherPort p) s t ∧ t.panelLeft = s.panelLeft ∧ t.panelRight = s.panelRight ∧
      t.epochCell = s.epochCell ∧ t.epochOld = none ∧ t.resetCause = s.resetCause ∧
      (t.port p).awaitHigh = false ∧
      { t.port (otherPort p) with
        sup := (s.port (otherPort p)).sup, supTimer := (s.port (otherPort p)).supTimer
        attention := (s.port (otherPort p)).attention } = s.port (otherPort p) ∧
      { t.clu with doors := s.clu.doors } = s.clu ∧
      (∀ d, t.cluDoor d = if t.fitted d = true ∧ s.fitted d = false
        then { s.cluDoor d with cls := (s.filter (.cls d)).level, lks := (s.filter (.lks d)).level }
        else s.cluDoor d) ∧
      (∀ d, t.chan d = if t.fitted d = s.fitted d then s.chan d
        else { s.chan d with state := if t.fitted d then .unreferenced else .unfitted }) ∧
      (∀ ln, t.filter ln =
        if t.cfg.filterCode (classOf ln) = s.cfg.filterCode (classOf ln) then s.filter ln
        else if t.cfg.filterCode (classOf ln) = 0
          then { pin := (s.filter ln).pin, level := (s.filter ln).pin, count := 0 }
          else { s.filter ln with count := 0 }) ∧
      t.sent = s.sent ++
        (doors.filter (fun d => (t.chan d).state != (s.chan d).state)).map
          (fun d => .channelStateAtClu d (t.chan d).state) ++
        ([LineClass.release, .panel, .edge, .switch, .drive].map (fun c =>
          if t.cfg.filterCode c = 0 ∧ s.cfg.filterCode c ≠ 0 then
            (((linesOf c).filter (fun ln => (s.filter ln).pin != (s.filter ln).level)).map
              (fun ln => acceptanceEvents ln (s.filter ln).pin t)).flatten
          else [])).flatten ∧
      (∀ q, if t.cfg.supTime q = 0 then (t.port q).sup = .unsupervised ∧ (t.port q).supTimer = none
        else if q = p ∧ s.cfg.supTime p ≠ 0 then
          (t.port q).sup = .active ∧ (t.port q).supTimer = some (s.cfg.supTime p)
        else (t.port q).sup = (s.port q).sup ∧ (t.port q).supTimer = (s.port q).supTimer)

/-- R160, R177: CONFIG_STORE begins a store of the working configuration and reserves the answer; its
completion replaces the stored image and forms the answer with the CRC character. -/
def Obligations.StoreWritesTheImage : Prop :=
  (∀ (seq : Byte) (s : State), Ready .s s → s.mode = .configure → s.asserted .mkey = true →
    ∃ t, exec (.configStore .s seq) s = .next t ∧ (t.port .s).slot = .reserved seq ∧
      t.store = some { image := s.cfg, crc := crc8 s.cfg.bytes } ∧ t.stored = s.stored ∧ t.cfg = s.cfg ∧
      t.source = s.source ∧ t.mode = .configure ∧ t.slots = s.slots ∧ SameDoors s t ∧ SameLines s t ∧
      t.clu = s.clu ∧ t.sent = s.sent ∧ t.free = s.free ∧ t.epoch = s.epoch ∧ t.epochCell = s.epochCell ∧
      t.epochOld = none ∧
      t.resetCause = s.resetCause ∧ t.pwm = s.pwm ∧ Supervised .s s t ∧ SameNotices .s s t ∧
      (t.port .s).mask = (s.port .s).mask ∧ (t.port .s).buffer = (s.port .s).buffer ∧ (t.port .s).overrun = (s.port .s).overrun ∧
      SameLink .t s t ∧ SameNotices .t s t) ∧
  (∀ (seq : Byte) (im : StoredImage) (s : State), s.running = true → s.store = some im →
    (s.port .s).slot = .reserved seq →
    ∃ t, exec .storeCompletion s = .next t ∧ t.store = none ∧ t.stored = im ∧ t.cfg = s.cfg ∧
      t.source = s.source ∧ t.mode = s.mode ∧ t.slots = s.slots ∧ SameDoors s t ∧ SameLines s t ∧
      t.clu = s.clu ∧ t.sent = s.sent ∧ t.free = s.free ∧ t.epoch = s.epoch ∧ t.epochCell = s.epochCell ∧
      t.epochOld = none ∧
      t.resetCause = s.resetCause ∧ t.pwm = s.pwm ∧
      (t.port .s).slot = .sending
        { kind := 0x92#8, seq := seq, result := 0#8, flags := flagsByte (s.port .s).overrun .s t
          payload := [im.crc] } false ∧
      (t.port .s).overrun = false ∧ (t.port .s).buffer = (s.port .s).buffer ∧ (t.port .s).rx = (s.port .s).rx ∧
      (t.port .s).awaitHigh = (s.port .s).awaitHigh ∧
      (t.port .s).sup = (s.port .s).sup ∧ (t.port .s).supTimer = (s.port .s).supTimer ∧
      (t.port .s).mask = (s.port .s).mask ∧ SameNotices .s s t ∧ SameLink .t s t ∧ SameNotices .t s t)

/-- R161, R178, R179: START_RUN enters RUN and hands the entry to the fitted channels and the Line Input Unit
when the cross-checks pass, with RUN shown in its answer; else it names the first field that fails. -/
def Obligations.StartRunEntersRun : Prop :=
  ∀ (seq : Byte) (s : State), Ready .s s → s.mode = .configure → s.asserted .mkey = true →
    (CrossChecks s.cfg →
      ∃ t, exec (.startRun .s seq) s = .next t ∧ Answers .s RequestKind.startRun.code seq .ok [] s t ∧
        t.mode = .run ∧ t.sent = s.sent ++ runEvents s ∧ t.cfg = s.cfg ∧ t.source = s.source ∧
        t.stored = s.stored ∧ t.store = s.store ∧ t.epoch = s.epoch ∧ t.slots = s.slots ∧ SameDoors s t ∧
        SameLines s t ∧ t.clu = s.clu ∧ t.free = s.free ∧ t.epochCell = s.epochCell ∧ t.epochOld = none ∧
        t.resetCause = s.resetCause ∧ t.pwm = s.pwm ∧ Supervised .s s t ∧ SameNotices .s s t ∧
        (t.port .s).mask = (s.port .s).mask ∧ SameLink .t s t ∧ SameNotices .t s t) ∧
    (∀ d, s.fitted d = true → (∀ e, e < d → DoorPasses s.cfg e) → ¬ DoorPasses s.cfg d →
      JustAnswers (.startRun .s seq) .s .startRun seq .configInvalid
        (halfBytes (BitVec.ofNat 16 (doorOffset d +
          (if s.cfg.openEnd d < s.cfg.plugPoint d + 16 then 2
           else if s.cfg.plugPoint d ≤ s.cfg.edgeMute d then 5 else 4)))) s) ∧
    ((∀ d, s.fitted d = false) →
      JustAnswers (.startRun .s seq) .s .startRun seq .configInvalid (halfBytes (BitVec.ofNat 16 37)) s)

/-- R162, R181: a RESTART is answered OK, and the start follows the last character of its answer. A start takes the
first sample of each line from its pin (log 37). -/
def Obligations.RestartStartsAfterItsAnswer : Prop :=
  (∀ (seq : Byte) (s : State), Ready .s s → s.asserted .mkey = true →
    ∃ t, exec (.restart .s seq) s = .next t ∧
      (t.port .s).slot = .sending
        { kind := 0x94#8, seq := seq, result := 0#8, flags := flagsByte (s.port .s).overrun .s t
          payload := [] } true ∧
      (t.port .s).overrun = false ∧ (t.port .s).buffer = (s.port .s).buffer ∧ Supervised .s s t ∧
      AnswerAlone .s s t ∧ t.free = s.free) ∧
  (∀ (p : Port) (a : Answer) (s : State), s.running = true → s.store = none →
    (s.port p).slot = .sending a true →
    ∃ t, exec (.answerSent p) s = .next t ∧ StartedBy .restart s t ∧ t.free = s.free)

/-- R180, R181: POWER_ON starts the part; the release of the reset line starts it too. A store that a start cuts
short leaves a bad image, and the defaults are loaded (R177). With the reset line asserted, POWER_ON leaves the part
held, with its supply, and the release of the line then starts it with cause RESET_LINE (log 12). A start takes the
first sample of each line from its pin (log 37). Stop bits and PWM frequency are read from codes (log 46). -/
def Obligations.StartsLeaveStartValues : Prop :=
  (∀ s : State, s.resetLine = false → s.store = none →
    ∃ t, exec .powerOn s = .next t ∧ StartedBy .powerOn s t ∧ t.supply = true ∧ t.resetLine = false) ∧
  (∀ s : State, s.resetLine = true → s.supply = true → s.store = none →
    ∃ t, exec .resetLineReleased s = .next t ∧ StartedBy .resetLine s t ∧ t.supply = true ∧
      t.resetLine = false) ∧
  (∀ (s : State) (im : StoredImage), s.resetLine = false → s.store = some im →
    ∃ t, exec .powerOn s = .next t ∧ t.store = none ∧ t.stored.crc ≠ crc8 t.stored.image.bytes ∧
      t.cfg = Image.defaults ∧ t.source = .defaults ∧ t.mode = .configure) ∧
  (∀ s : State, s.resetLine = true →
    ∃ t u, exec .powerOn s = .next t ∧ t.supply = true ∧ t.resetLine = true ∧ Held s t ∧
      exec .resetLineReleased t = .next u ∧ StartedBy .resetLine t u ∧ u.running = true)

/-- R180: the reset line asserted, or the supply lost, holds the part. A held part takes nothing; encoder lines and
pins move, uncounted and unsampled (log 13). A start that the hold cuts short leaves the epoch cell's old value or
its new one (R181; log 11). -/
def Obligations.HeldPartDrivesAndTakesNothing : Prop :=
  (∀ (c : Instr) (s : State), c = .resetLineAsserted ∨ c = .supplyLoss →
     ∃ t, exec c s = .next t ∧ Held s t ∧
       (c = .resetLineAsserted → t.resetLine = true ∧ t.supply = s.supply) ∧
       (c = .supplyLoss → t.supply = false ∧ t.resetLine = s.resetLine)) ∧
  (∀ (c : Instr) (s : State), s.running = false → c ≠ .powerOn → c ≠ .resetLineAsserted →
     c ≠ .resetLineReleased → c ≠ .supplyLoss →
     ∃ t, exec c s = .next t ∧ SameControl s t ∧ t.slots = s.slots ∧ t.guards = s.guards ∧
       t.demands = s.demands ∧ t.clu = s.clu ∧ t.portT = s.portT ∧ t.portS = s.portS ∧ t.sent = s.sent ∧
       (∀ d, { t.chan d with encA := (s.chan d).encA, encB := (s.chan d).encB } = s.chan d) ∧
       (∀ l, { t.filter l with pin := (s.filter l).pin } = s.filter l))

/-! ### Receivers, answers, supervision (Chapter 9) -/

/-- R163, R164: a character is sent as a start bit, its data bits least significant first, the parity bit and the
stop bits of the port's settings. What the receiver of a port does with a character: hunting, at LEN, in the body;
after a break it waits for the line to return high (log 36). A gap abandons the message. -/
def Obligations.CharactersAreSentAndAssembled : Prop :=
  (∀ (p : Port) (s : State),
    let x := s.port p
    let line := fun (b : Bool) => if b = true then Level.high else Level.low
    let odd := fun (c : Byte) => c.getLsbD 0 ^^ c.getLsbD 1 ^^ c.getLsbD 2 ^^ c.getLsbD 3 ^^ c.getLsbD 4 ^^
      c.getLsbD 5 ^^ c.getLsbD 6 ^^ c.getLsbD 7
    let bits := fun (c : Byte) => [Level.low, line (c.getLsbD 0), line (c.getLsbD 1), line (c.getLsbD 2),
        line (c.getLsbD 3), line (c.getLsbD 4), line (c.getLsbD 5), line (c.getLsbD 6), line (c.getLsbD 7)] ++
      (match x.line.parity with
        | .none => []
        | .even => [line (odd c)]
        | .odd => [line (!odd c)]) ++
      (if x.line.twoStopBits then [Level.high, .high] else [.high])
    (∀ a r, x.slot = .sending a r → s.transmittedBits p =
      (([0xA5#8, BitVec.ofNat 8 a.body.length] ++ a.body ++
        [crc8 (BitVec.ofNat 8 a.body.length :: a.body)]).map bits).flatten) ∧
    (x.slot = .free ∨ (∃ q, x.slot = .reserved q) → s.transmittedBits p = [])) ∧
  ∀ (p : Port) (ch : RxChar) (s : State), s.running = true →
    let err := charError (s.port p).line ch
    let leaves := fun (t : State) (rx : Option Assembly) (low : Bool) =>
      (t.port p).rx = rx ∧ (t.port p).awaitHigh = low ∧ (t.port p).slot = (s.port p).slot ∧ (t.port p).buffer = (s.port p).buffer ∧
      (t.port p).overrun = (s.port p).overrun ∧ (t.port p).sup = (s.port p).sup ∧
      (t.port p).supTimer = (s.port p).supTimer ∧ (t.port p).line = (s.port p).line ∧ AnswerAlone p s t ∧
      t.free = s.free
    ((s.port p).rx = none → ∃ t, exec (.characterReceived p ch) s = .next t ∧
      leaves t (if ch.data = 0xA5#8 ∧ err = false
        then some { len := none, body := [], crc := 0#8, damage := false } else none)
        (breakHeard (s.port p).line ch)) ∧
    (∀ a, (s.port p).rx = some a → a.len = none → ∃ t, exec (.characterReceived p ch) s = .next t ∧
      leaves t (if 2 ≤ ch.data.toNat ∧ ch.data.toNat ≤ 32
        then some { len := some ch.data.toNat, body := [], crc := crc8 [ch.data], damage := err } else none)
        (breakHeard (s.port p).line ch)) ∧
    (∀ a n, (s.port p).rx = some a → a.len = some n → a.body.length < n →
      ∃ t, exec (.characterReceived p ch) s = .next t ∧
        leaves t (some { a with
          body := a.body ++ [ch.data], crc := crcByte a.crc ch.data, damage := a.damage || err })
          (breakHeard (s.port p).line ch)) ∧
    (∃ t, exec (.messageAbandoned p) s = .next t ∧ leaves t none (s.port p).awaitHigh)

/-- R167: the last character of an answer frees the slot. A buffered request is then executed as one that arrives at
the free port, but for what its own arrival did there: the receiver and the supervision stand (SUP_TIME 0 by the
request itself ends the supervision), and a CAR_REPORT answers the supervision as it stands. A buffered error
message is answered LINE_ERROR. -/
def Obligations.AnswerSentTakesTheBuffer : Prop :=
  ∀ (p : Port) (a : Answer) (s : State), s.running = true → (s.port p).slot = .sending a false →
    let stands := fun (t : State) => (t.port p).rx = (s.port p).rx ∧ (t.port p).awaitHigh = (s.port p).awaitHigh ∧
      (t.port p).buffer = none ∧ (t.port p).sup = (s.port p).sup ∧ (t.port p).supTimer = (s.port p).supTimer ∧
      AnswerAlone p s t ∧ t.free = s.free
    ((s.port p).buffer = none → ∃ t, exec (.answerSent p) s = .next t ∧ (t.port p).slot = .free ∧
      (t.port p).overrun = (s.port p).overrun ∧ stands t) ∧
    (∀ (c : Instr) (k : RequestKind) (seq : Byte) (b : List Byte), requestOf c = some (p, k, seq, b) →
      WellFormed c = true →
      (s.port p).buffer = some { error := false, kind := k.code, seq := seq, params := b } →
      ∃ t u, exec (.answerSent p) s = .next t ∧
        exec c (s.modPort p (fun x => { x with slot := .free, buffer := none })) = .next u ∧
        t = u.modPort p (fun x => { x with
          rx := (s.port p).rx, awaitHigh := (s.port p).awaitHigh, slot := (t.port p).slot
          sup := if u.cfg.supTime p = 0 then x.sup else (s.port p).sup
          supTimer := if u.cfg.supTime p = 0 then x.supTimer else (s.port p).supTimer }) ∧
        (k ≠ .carReport → (t.port p).slot = (u.port p).slot) ∧
        (k = .carReport → s.sent.contains (.linkLost p) = false →
          ∃ r, IsCarReport s (fun q => (s.port q).sup) r ∧ (t.port p).slot = .sending
            { kind := 0x8A#8, seq := seq, result := 0#8, flags := flagsByte (s.port p).overrun p t
              payload := r } false)) ∧
    (∀ m : Message, (s.port p).buffer = some m → m.error = true → ∃ t, exec (.answerSent p) s = .next t ∧
      (t.port p).slot = .sending { kind := m.kind + 0x80#8, seq := m.seq, result := 0x0C#8
                                   flags := flagsByte (s.port p).overrun p t, payload := [] } false ∧
      (t.port p).overrun = false ∧ stands t)

/-- R170, R172: the supervision timer of a port: ACTIVE goes SILENT for SUP_GRACE, SILENT goes LOST and sends
the loss; the other port is told by PEER each time; a port in neither state is left alone (log 8). -/
def Obligations.SupervisionRunsOut : Prop :=
  ∀ (p : Port) (s : State), s.running = true →
    let stands := fun (t : State) =>
      SameControl s t ∧ t.slots = s.slots ∧ SameDoors s t ∧ SameLines s t ∧ t.clu = s.clu ∧ t.free = s.free ∧
      (t.port p).slot = (s.port p).slot ∧ (t.port p).rx = (s.port p).rx ∧
      (t.port p).awaitHigh = (s.port p).awaitHigh ∧
      (t.port p).buffer = (s.port p).buffer ∧ SameNotices p s t ∧ SameLink (otherPort p) s t
    let told := fun (t : State) =>
      (t.port (otherPort p)).kinds = (s.port (otherPort p)).kinds ||| 0x80#8
    (∃ t, exec (.supervisionIntervalExpiry p) s = .next t ∧ stands t ∧ t.sent = s.sent ∧
      (if (s.port p).sup = .active then
        (t.port p).sup = .silent ∧ (t.port p).supTimer = some (s.cfg.supGrace p) ∧ told t
       else (t.port p).sup = (s.port p).sup ∧ (t.port p).supTimer = (s.port p).supTimer ∧
        SameNotices (otherPort p) s t)) ∧
    (∃ t, exec (.supervisionGraceExpiry p) s = .next t ∧ stands t ∧
      (if (s.port p).sup = .silent then
        (t.port p).sup = .lost ∧ (t.port p).supTimer = none ∧ told t ∧ t.sent = s.sent ++ [.linkLost p]
       else (t.port p).sup = (s.port p).sup ∧ (t.port p).supTimer = (s.port p).supTimer ∧
        SameNotices (otherPort p) s t ∧ t.sent = s.sent))

/-! ### Demand resolution (Chapter 2) -/

/-- R33 to R39: the record that the table gives a doorway. EGRESS by the lowest EGRESS hold in force; else
ISOLATED by the highest ISOLATE hold; else, among the OPEN and CLOSE holds of the top level, CLOSE wins, and
OPEN asks for a released and referenced doorway. -/
def Obligations.RecordFollowsTheHoldsInForce : Prop :=
  ∀ (s : State) (d : Door),
    let force := fun (i : SlotNo) (h : Hold) => s.hold i = some h ∧ has h.scope d = true ∧ h.level ≠ 0
    let moves := fun (h : Hold) => h.kind = .opens ∨ h.kind = .closes
    let top := fun (h : Hold) => moves h ∧ ∀ j g, force j g → moves g → g.level ≤ h.level
    let rel := s.released d
    ((rel = true ↔ s.hold (rlnSlot (sideOf d)) ≠ none ∧ (s.cfg.relMode = .lineAndLink →
        ∃ i h, force i h ∧ h.issuer = .trn ∧ h.kind = .release)) ∧
    (∀ i h, force i h → h.kind = .egress → (∀ j g, force j g → g.kind = .egress → i ≤ j) →
      s.resolve d = { kind := .egress, gov := some h.handle, target := none, released := rel, blocked := false }) ∧
    ((∀ j g, force j g → g.kind ≠ .egress) →
      (∀ i h, force i h → h.kind = .isolate →
        (∀ j g, force j g → g.kind = .isolate → g.level < h.level ∨ (g.level = h.level ∧ i ≤ j)) →
        s.resolve d =
          { kind := .isolated, gov := some h.handle, target := none, released := rel, blocked := false }) ∧
      ((∀ j g, force j g → g.kind ≠ .isolate) →
        (∀ i h, force i h → h.kind = .closes → top h → (∀ j g, force j g → g.kind = .closes → top g → i ≤ j) →
          s.resolve d =
            { kind := .closes, gov := some h.handle, target := none, released := rel, blocked := false }) ∧
        (∀ i h, force i h → h.kind = .opens → top h → (∀ j g, force j g → top g → g.kind = .opens ∧ i ≤ j) →
          (¬ (rel = true ∧ (s.chan d).referenced = true) → s.resolve d =
            { kind := .closes, gov := some h.handle, target := none, released := rel, blocked := true }) ∧
          (rel = true → (s.chan d).referenced = true → ∃ tg, s.resolve d =
              { kind := .opens, gov := some h.handle, target := some tg, released := rel, blocked := false } ∧
            (∃ j g, force j g ∧ top g ∧ tg = g.limit.getD (s.cfg.openEnd d)) ∧
            ∀ j g, force j g → top g → g.limit.getD (s.cfg.openEnd d) ≤ tg)) ∧
        ((∀ j g, force j g → ¬ moves g) → s.resolve d =
          { kind := .closes, gov := none, target := none, released := rel, blocked := false }))))

/-- R43, R54, R55, R64, R71, R93, Table 3-3: how a fitted channel takes a record that differs from the one before,
no line hindering. UNREFERENCED acts on every record, a WARNING without reference drops to it, EGRESS ends in
FAULTED or UNREFERENCED; every other state, STANDING among them (log 17), reacts to a changed demand or target
and takes a new handle or flag without reaction. A channel that has yet to take the entry into RUN leaves EGRESS
alone (log 15). -/
def Obligations.ChannelsActOnDemandChanges : Prop :=
  ∀ (d : Door) (s : State), s.fitted d = true → Unhindered d s →
    let new := s.resolve d
    let u := s.setDemand d new
    let t := recomputeDoor d s
    let st := (s.chan d).state
    let ref : Prop := (s.chan d).referenced = true
    new ≠ s.demand d → new.kind ≠ .egress →
    (st = .unfitted → t = u) ∧
    (st = .egress → (s.chan d).fault ≠ none →
      Outputs (t.chan d) .faulted .free false .off ∧ Untimed (t.chan d) ∧ (t.chan d).referenced = false ∧
      (t.chan d).position = (s.chan d).position ∧ (t.chan d).fault = (s.chan d).fault ∧ Resting (t.guard d) ∧
      SameReopen (s.guard d) (t.guard d) ∧ SameRetry (s.guard d) (t.guard d) ∧ t.demand d = t.resolve d ∧
      OnlyDoor d s t ∧ DoorNotice 3 PortState.fault d t ∧
      t.sent = s.sent.filter (fun c => !isGrdPlacement d c) ++
        [.channelEntryAtTable d .faulted, .channelStateAtClu d .faulted]) ∧
    (st = .egress → (s.chan d).fault = none → s.chanInRun d = true → Settles d u t) ∧
    (st = .egress → s.chanInRun d = true → (t.chan d).plaus =
      if s.asserted (.lks d) = true ∧ s.asserted (.cls d) = false then some 10 else (s.chan d).plaus) ∧
    (st = .egress → (s.chan d).fault = none → s.chanInRun d = false →
      Outputs (t.chan d) .unreferenced .free false .off ∧ Untimed (t.chan d) ∧ SameLeaf (s.chan d) (t.chan d) ∧
      Resting (t.guard d) ∧ Plain d [] u t) ∧
    (st ≠ .egress → s.chanInRun d = false → t = u) ∧
    (s.chanInRun d = true →
      (st = .unreferenced → if KeepsWaiting new then t = u
        else Warns d u t ∧ SameRetry (s.guard d) (t.guard d) ∧ Plain d [] u t) ∧
      (st = .warning → ¬ ref → if new.blocked = true ∧ new.released = true then Settles d u t else t = u) ∧
      (st ≠ .unfitted → st ≠ .egress → st ≠ .unreferenced → (st = .warning → ref) →
        if new.kind = (s.demand d).kind ∧ new.target = (s.demand d).target then t = u
        else if new.kind = .opens then
          (st ∈ [.referencing, .unlocking, .plugOut, .stopping, .relief, .faulted] → t = u) ∧
          (st = .locked → s.asserted (.lks d) = true →
            Outputs (t.chan d) .unlocking .brake true .off ∧ SameLeaf (s.chan d) (t.chan d) ∧
            Timers (t.chan d) none none none (some (.first, s.cfg.unlockTime d)) none none ∧
            Resting (t.guard d) ∧ Plain d [] u t) ∧
          (st = .locked → s.asserted (.lks d) = false →
            Opens d false u t ∧ SameLeaf (s.chan d) (t.chan d) ∧ Plain d [] u t) ∧
          (st = .slideClose ∨ st = .plugIn → Stops d u t ∧ Plain d [] u t) ∧
          (st = .locking ∨ st = .reseat → Opens d false u t ∧ SameLeaf (s.chan d) (t.chan d) ∧ Plain d [] u t) ∧
          (∀ tg ∈ new.target,
            (st = .warning ∨ st = .standing → OpensByPosition d tg u t) ∧
            (st = .slideOpen → if tg ≤ (s.chan d).position.val
              then Arrives d u t ∧ SameLeaf (s.chan d) (t.chan d) ∧ Plain d [.countdownStart d] u t else t = u) ∧
            (st = .isOpen → if (s.chan d).position.val + s.cfg.endWindow d < tg
              then Opens d (decide (s.cfg.plugPoint d ≤ (s.chan d).position.val)) u t ∧
                SameLeaf (s.chan d) (t.chan d) ∧ Plain d [] u t else t = u) ∧
            (st = .openBlocked → if tg ≤ (s.chan d).position.val + s.cfg.endWindow d
              then Arrives d u t ∧ SameLeaf (s.chan d) (t.chan d) ∧ Plain d [.countdownStart d] u t else t = u))
        else
          (st ∈ [.referencing, .locked, .stopping, .warning, .slideClose, .plugIn, .locking, .reseat, .relief,
              .standing, .faulted] → t = u) ∧
          (st = .unlocking → Locks d u t ∧ Plain d [] u t) ∧
          (st = .plugOut ∨ st = .slideOpen → Stops d u t ∧ Plain d [] u t) ∧
          (st = .isOpen → Warns d u t ∧ SameRetry (s.guard d) (t.guard d) ∧ Plain d [] u t) ∧
          (st = .openBlocked → Warns d u t ∧ ZeroRetry (t.guard d) ∧ Plain d [] u t)))

/-- R43, R70, R142: a fitted channel outside EGRESS takes an EGRESS record by letting its leaf go free with the
latch held, its reference lost; the table is told. -/
def Obligations.EgressLetsTheLeafGo : Prop :=
  ∀ (d : Door) (s : State), s.fitted d = true → (s.chan d).state ≠ .unfitted → (s.chan d).state ≠ .egress →
    (s.resolve d).kind = .egress → s.resolve d ≠ s.demand d →
    let t := recomputeDoor d s
    Outputs (t.chan d) .egress .free true .off ∧ Untimed (t.chan d) ∧ (t.chan d).referenced = false ∧
    (t.chan d).plaus = none ∧ (t.chan d).position = (s.chan d).position ∧ (t.chan d).fault = (s.chan d).fault ∧
    t.demand d = s.resolve d ∧ OnlyDoor d s t ∧ NoNotice s t ∧
    t.sent = s.sent.filter (fun c => !isGrdPlacement d c) ++
      [.channelEntryAtTable d .egress, .channelStateAtClu d .egress]

/-! ### Events at the Hold Table -/

/-- R10, R14, R15, R25, R87, R112: an internal placement taken in RUN fills its free fixed slot or renews the hold in
place; a handle that finds its hold live, and an obstruction placement for a doorway in STANDING, FAULTED or
EGRESS (R87, by the state of the channel as the table takes the placement, log 19), place nothing; in CONFIGURE
nothing is placed. A handle's new hold raises EGRESS. A raise wakes a dormant PNL or HDL hold, and leaves one no
longer live or no longer dormant alone. -/
def Obligations.InternalHoldsArePlacedAndRaised : Prop :=
  (∀ (q : Placement) (s s1 : State), WellFormed (.internalPlacement q) = true → s.running = true →
     s.takeSent (.internalPlacement q) = some s1 →
     let i := q.slot
     let sc := (slotRole i).scope
     let barred : Prop := ∃ d, i = grdSlot d ∧
       ((s.chan d).state = .standing ∨ (s.chan d).state = .faulted ∨ (s.chan d).state = .egress)
     ∃ t, exec (.internalPlacement q) s = .next t ∧ TableEvent s t ∧ (∀ j, j ≠ i → t.slot j = s.slot j) ∧
       (s.mode = .configure ∨ barred ∨ ((∃ d, i = hdlSlot d) ∧ s.hold i ≠ none) →
         t.slots = s.slots ∧ SameDoors s t ∧ NoNotice s t ∧ t.sent = s1.sent) ∧
       (s.mode = .run → ¬ barred → s.hold i = none →
         DoorsFollow (fun d => has sc d = true) s1 t ∧ (∀ d, i = hdlSlot d → DoorNotice 4 PortState.egress d t) ∧
         t.slot i =
           { hold := some { handle := { epoch := s.epoch, slot := BitVec.ofNat 8 i.val,
                                        generation := (s.slot i).generation }
                            issuer := q.issuer, kind := (slotRole i).kind, scope := sc, level := q.level
                            lifetime := q.lifetime, countdown := countdownFor s sc q.waiting, limit := q.limit
                            rwl := false, tag := 0#16 }
             generation := (s.slot i).generation, lastReason := none, mark := none }) ∧
       (∀ h, s.mode = .run → ¬ barred → s.hold i = some h → (¬ ∃ d, i = hdlSlot d) →
         DoorsFollow (fun d => has h.scope d = true) s1 t ∧
         t.slot i = { s.slot i with
           hold := some { h with
             level := q.level, lifetime := q.lifetime, limit := q.limit
             countdown := countdownFor s h.scope
               (if h.level = 0 then q.waiting else decide (h.countdown = .waiting)) } })) ∧
  (∀ (i : SlotNo) (s s1 : State), s.running = true → s.takeSent (.raise i) = some s1 →
     ∃ t, exec (.raise i) s = .next t ∧ TableEvent s t ∧ (∀ j, j ≠ i → t.slot j = s.slot j) ∧
       ((∀ h ∈ s.hold i, h.level ≠ 0) → t.slots = s.slots ∧ SameDoors s t ∧ NoNotice s t ∧ t.sent = s1.sent) ∧
       (∀ h d, s.hold i = some h → h.level = 0 → i = pnlSlot d →
         DoorsFollow (fun e => has h.scope e = true) s1 t ∧
         t.slot i = { s.slot i with
           hold := some { h with
             level := s.cfg.buttonLevel, lifetime := some s.cfg.buttonDwell
             countdown := countdownFor s h.scope true } }) ∧
       (∀ h d, s.hold i = some h → h.level = 0 → i = hdlSlot d →
         DoorsFollow (fun e => has h.scope e = true) s1 t ∧
         t.slot i = { s.slot i with hold := some { h with level := 7 } }))

/-- R18, R21, R22, R23, R26, R107, R109: which holds the events without a request retire, and for what reason:
the drop of a release line, a panel switched off, the loss of a port, a proven event, the end of a countdown. -/
def Obligations.TableEventsRetire : Prop :=
  (∀ (c : Instr) (sel : SlotNo → Hold → Prop) (r : Reason) (s s1 : State), s.running = true →
     s.takeSent c = some s1 →
     (∃ sd, c = .lineDroppedRetirement sd ∧ r = .lineDropped ∧
       sel = fun i _ => i = rlnSlot sd ∨ ∃ d, sideOf d = sd ∧ i = pnlSlot d) ∨
     (∃ sd, c = .panelOffRetirement sd ∧ r = .panelOff ∧ sel = fun i _ => ∃ d, sideOf d = sd ∧ i = pnlSlot d) ∨
     (∃ p, c = .linkLost p ∧ r = .linkLost ∧ sel = heldBy p) ∨
     (∃ d, c = .provenEvent d ∧ r = .fulfilled ∧
       sel = fun _ h => has h.scope d = true ∧ h.rwl = true ∧ Proven s h.scope) →
     ∃ t, exec c s = .next t ∧ TableEvent s t ∧ Retires sel r false s t ∧ RetiredNotices sel s t ∧
       DoorsFollow (inScopes sel s) s1 t) ∧
  (∀ (i : SlotNo) (s : State), s.running = true →
     let sel : SlotNo → Hold → Prop := fun j h => j = i ∧ h.countdown = .running ∧ h.lifetime ≠ none
     ∃ t, exec (.expiry i) s = .next t ∧ TableEvent s t ∧ Retires sel .expired false s t ∧
       RetiredNotices sel s t ∧ DoorsFollow (inScopes sel s) s t)

/-- R22, R24: a countdown start for doorway d starts every hold that waits for d alone. An entry into STANDING
retires the doorway's GRD hold, an entry into FAULTED or EGRESS its PNL and GRD holds, and each starts the
countdowns that wait for the doorway. -/
def Obligations.ChannelEventsStartCountdowns : Prop :=
  (∀ (d : Door) (s s1 : State), s.running = true → s.takeSent (.countdownStart d) = some s1 →
     ∃ t, exec (.countdownStart d) s = .next t ∧ TableEvent s t ∧ SameDoors s t ∧ NoNotice s t ∧
       t.sent = s1.sent ∧
       ∀ i, t.slot i = { s.slot i with
         hold := (s.hold i).map (fun h =>
           if h.countdown = .waiting ∧ h.scope = single d then { h with countdown := .running } else h) }) ∧
  (∀ (d : Door) (e : EntryKind) (s s1 : State), s.running = true →
     s.takeSent (.channelEntryAtTable d e) = some s1 →
     let gone : SlotNo → Prop := fun i => i = grdSlot d ∨ (e ≠ .standing ∧ i = pnlSlot d)
     let r : Reason := match e with
       | .standing => .standing
       | .faulted => .faulted
       | .egress => .egress
     ∃ t, exec (.channelEntryAtTable d e) s = .next t ∧ TableEvent s t ∧
       (∀ p, (t.port p).kinds.getLsbD 1 = (s.port p).kinds.getLsbD 1) ∧
       DoorsFollow (inScopes (fun i _ => gone i) s) s1 t ∧
       ∀ i, if gone i ∧ s.hold i ≠ none then t.slot i =
           { hold := none, generation := (s.slot i).generation + 1#8, lastReason := some r, mark := (s.slot i).mark }
         else t.slot i = { s.slot i with
           hold := (s.hold i).map (fun h =>
             if h.countdown = .waiting ∧ h.scope = single d then { h with countdown := .running } else h) })

/-! ### Lines (Chapter 5) -/

/-- R103: a sample of a class in a running part: an agreeing level clears the count, a differing one advances
it, and the third consecutive differing one is accepted and handed to its consumers as AcceptancesReachTheirConsumers
says, the lines in the order of Table 5-1 (the model's choice, log 22). The other classes' filters stand, and nothing
but notices and what is sent changes. With filter code 0 no sample is taken. -/
def Obligations.ThirdDifferingSampleIsAccepted : Prop :=
  ∀ (c : LineClass) (levels : List Level) (s : State), WellFormed (.lineSample c levels) = true →
    s.running = true →
    let accepted := ((linesOf c).zip levels).filter
      (fun x => x.2 != (s.filter x.1).level && (s.filter x.1).count == 2)
    let zeroSpeedLost : Prop := s.mode = .run ∧ ∃ x ∈ accepted, x.1 = .zspd ∧ x.2 ≠ s.cfg.activeLevel .release
    ∃ t, exec (.lineSample c levels) s = .next t ∧
      (if s.cfg.filterCode c = 0 then t = s
       else SameControl s t ∧ t.slots = s.slots ∧ SameDoors s t ∧ t.clu = s.clu ∧ t.free = s.free ∧
        t.panelLeft = s.panelLeft ∧ t.panelRight = s.panelRight ∧ SameLink .t s t ∧ SameLink .s s t ∧
        (∀ l, classOf l ≠ c → t.filter l = s.filter l) ∧
        (∀ x ∈ (linesOf c).zip levels, t.filter x.1 =
          if x.2 = (s.filter x.1).level then { pin := x.2, level := x.2, count := 0 }
          else if (s.filter x.1).count = 2 then { pin := x.2, level := x.2, count := 0 }
          else { pin := x.2, level := (s.filter x.1).level, count := (s.filter x.1).count + 1 }) ∧
        t.sent = s.sent ++ (accepted.map (fun x => acceptanceEvents x.1 x.2 s)).flatten ∧
        (if zeroSpeedLost then ∀ p, (t.port p).kinds = (s.port p).kinds ||| 0x40#8 else NoNotice s t))

/-- R105 to R112, R115, Table 5-1: an accepted level goes to the consumers of its line, and in RUN a release
line, ZSPD, a button or a handle sends its placements, raises or retirements. At the entry into RUN the
asserted release lines and handle lines are taken as though just accepted. The model's choices: LINE_ACCEPTANCE is
the third differing sample of its line alone (log 38), RUN counts from the change of mode (log 39), and the order of
the lines at the entry (log 40). -/
def Obligations.AcceptancesReachTheirConsumers : Prop :=
  (∀ (l : Line) (lv : Level) (s : State), s.running = true → lv ≠ (s.filter l).level →
     s.cfg.filterCode (classOf l) = 0 ∨ (s.filter l).count = 2 →
     let zeroSpeedLost : Prop := l = .zspd ∧ s.mode = .run ∧ lv ≠ s.cfg.activeLevel .release
     ∃ t, exec (.lineAcceptance l lv) s = .next t ∧ SameControl s t ∧ t.slots = s.slots ∧ SameDoors s t ∧
       t.clu = s.clu ∧ t.free = s.free ∧ t.panelLeft = s.panelLeft ∧ t.panelRight = s.panelRight ∧
       SameLink .t s t ∧ SameLink .s s t ∧
       t.filter l = { pin := lv, level := lv, count := 0 } ∧ (∀ m, m ≠ l → t.filter m = s.filter m) ∧
       t.sent = s.sent ++ acceptanceEvents l lv s ∧
       (if zeroSpeedLost then ∀ p, (t.port p).kinds = (s.port p).kinds ||| 0x40#8 else NoNotice s t)) ∧
  (∀ s s1 : State, s.running = true → s.mode = .run → s.takeSent .lineInputRunEntry = some s1 →
     ∃ t, exec .lineInputRunEntry s = .next t ∧ SameControl s t ∧ t.slots = s.slots ∧ SameDoors s t ∧
       SameLines s t ∧ t.clu = s.clu ∧ t.free = s.free ∧ SameLink .t s t ∧ SameLink .s s t ∧ NoNotice s t ∧
       t.sent = s1.sent ++ (if s.asserted .relL then releaseSends .left else []) ++
         (if s.asserted .relR then releaseSends .right else []) ++
         (doors.filter (fun d => s.fitted d && s.asserted (.hdl d))).map (fun d => handleSend d s))

/-! ### Channels (Chapters 3, 4, 6 and 7) -/

/-- R48, R49, R75: a step moves the encoder pair one place and counts, modulo 1024, in a fitted channel: in
CONFIGURE, and in RUN in a state that neither moves nor relieves, as long as a referenced leaf stays in range.
Unfitted, and in a held part (log 13), the lines move and nothing counts. -/
def Obligations.StepsAreCounted : Prop :=
  ∀ (d : Door) (dir : Dir) (s : State),
    let place := fun (a b : Level) => match a, b with
      | .low, .low => 0
      | .high, .low => 1
      | .high, .high => 2
      | .low, .high => 3
    let delta := match dir with
      | .opening => 1
      | .closing => 3
    let moved := ((s.chan d).position.val + (match dir with
      | .opening => 1
      | .closing => 1023)) % 1024
    ∃ t, exec (.encoderStep d dir) s = .next t ∧
      place (t.chan d).encA (t.chan d).encB = (place (s.chan d).encA (s.chan d).encB + delta) % 4 ∧
      (s.running = false ∨ (s.chan d).state = .unfitted → Plain d [] s t ∧ t.guard d = s.guard d ∧
        t.chan d = { s.chan d with encA := (t.chan d).encA, encB := (t.chan d).encB }) ∧
      (s.running = true → (s.chan d).state ≠ .unfitted →
        (s.chanInRun d = false ∨ (isMotionState (s.chan d).state = false ∧ (s.chan d).state ≠ .relief ∧
          ((s.chan d).referenced = true →
            (dir = .opening → (s.chan d).position.val < 1023 ∧
              (s.chan d).position.val < s.cfg.openEnd d + 32 ∧
              ((s.chan d).position.val = s.cfg.plugPoint d → s.asserted (.cls d) = false)) ∧
            (dir = .closing → 0 < (s.chan d).position.val)))) →
        Plain d [] s t ∧ t.guard d = s.guard d ∧ (t.chan d).position.val = moved ∧
        t.chan d = { s.chan d with
          encA := (t.chan d).encA, encB := (t.chan d).encB, position := (t.chan d).position
          band := ⟨moved / 128 % 8, by omega⟩ })

/-- R47, R51, R59, R60, R61, R66, R80, R83: a step of a referenced leaf in an opening or closing motion, no
line hindering and no fault: arrival at the target, the lock zone with its switch, else the profile of the
position reached; each step restarts the stall interval. -/
def Obligations.StepsDriveTheMotion : Prop :=
  ∀ (d : Door) (dir : Dir) (p : Position) (s : State), Moving d s → Unhindered d s →
    (s.chan d).referenced = true →
    (dir = .opening → (s.chan d).position.val = s.cfg.plugPoint d → s.asserted (.cls d) = false) →
    p.val = (match dir with
      | .opening => (s.chan d).position.val + 1
      | .closing => (s.chan d).position.val - 1) →
    (dir = .opening → (s.chan d).position.val < s.cfg.openEnd d + 32) →
    (dir = .closing → 0 < (s.chan d).position.val) →
    let band : Fin 8 := ⟨p.val / 128 % 8, by omega⟩
    let counted := fun (c : Channel) => { c with position := p, band := band }
    let watched := fun (g : Guard) => g.stage = .normal ∧ g.stallTimer = some (s.cfg.stallInterval d) ∧
      g.blank = min ((s.guard d).blank + 1) (s.cfg.blankSteps d) ∧ SameReopen (s.guard d) g ∧
      SameRetry (s.guard d) g
    let atLeaf := fun (c : Channel) => c.position = p ∧ c.band = band ∧ c.referenced = true ∧
      c.fault = (s.chan d).fault ∧ c.plaus = (s.chan d).plaus
    ∃ t, exec (.encoderStep d dir) s = .next t ∧
      ((s.chan d).state = .plugOut ∨ (s.chan d).state = .slideOpen →
        atLeaf (t.chan d) ∧
        if (s.chan d).state = .slideOpen ∧ ∃ tg ∈ (s.demand d).target, tg ≤ p.val
        then Arrives d s t ∧ Plain d [.countdownStart d] s t
        else
          let slide := decide (s.cfg.plugPoint d ≤ p.val)
          Outputs (t.chan d) (if slide then .slideOpen else .plugOut) (.driveOpen (s.cfg.openLevel d band))
            (!slide && decide (p.val ≤ s.cfg.lockWindow d)) .off ∧
          (t.chan d).threshold = s.cfg.openForce d band ∧ (t.chan d).travel = (s.chan d).travel ∧
          watched (t.guard d) ∧ Plain d [] s t) ∧
      ((s.chan d).state = .slideClose ∨ (s.chan d).state = .plugIn →
        if p.val ≤ s.cfg.lockWindow d ∧ s.asserted (.cls d) = true ∧
          ((s.chan d).state = .plugIn ∨ p.val ≤ s.cfg.plugPoint d)
        then (s.asserted (.lks d) = false → Presses d (s.modChan d counted) t ∧ Plain d [] s t) ∧
          (s.asserted (.lks d) = true → Locks d (s.modChan d counted) t ∧ Plain d [] s t)
        else
          let slide := decide (s.cfg.plugPoint d < p.val)
          atLeaf (t.chan d) ∧
          Outputs (t.chan d) (if slide then .slideClose else .plugIn) (.driveClose (s.cfg.closeLevel d band))
            false .on ∧
          (t.chan d).threshold = s.cfg.closeForce d band ∧ (t.chan d).travel = (s.chan d).travel ∧
          watched (t.guard d) ∧ Plain d [] s t)

/-- R83, R88, R90: a step in RELIEF, of either direction, counts towards RELIEF_STEPS; at the last of them, or with a
referenced leaf at OPEN_END, the relief ends. -/
def Obligations.ReliefEndsAfterItsSteps : Prop :=
  ∀ (d : Door) (dir : Dir) (s : State), Moving d s → Unhindered d s → (s.chan d).state = .relief →
    StepCounts s d dir → ¬ ClosedInSlide s d dir →
    let n := (s.guard d).reliefSteps + 1
    let p := stepTo s d dir
    ∃ t, exec (.encoderStep d dir) s = .next t ∧
      let u := (leafMoved d p s t).modGuard d (fun g => { g with
          reliefSteps := n, stallTimer := some (s.cfg.stallInterval d) })
      if s.cfg.reliefSteps d ≤ n ∨ ((s.chan d).referenced = true ∧ s.cfg.openEnd d ≤ p.val)
      then ReliefEnds d u t
      else t.chan d = u.chan d ∧ t.guard d = u.guard d ∧ Plain d [] s t

/-- R55, R76, R132, R134, R179: the entry into RUN at a channel: a bridge fault asserted is a BRIDGE fault, else
the channel settles from UNREFERENCED; a channel that a handle has taken to EGRESS stays there (log 15). -/
def Obligations.ChannelTakesTheRunEntry : Prop :=
  ∀ (d : Door) (s s1 : State), s.running = true → s.takeSent (.channelRunEntry d) = some s1 →
    s1.chanInRun d = true →
    ∃ t, exec (.channelRunEntry d) s = .next t ∧
      ((s.chan d).state = .egress → Plain d [] s1 t ∧ t.chan d = s.chan d ∧ t.guard d = s.guard d) ∧
      ((s.chan d).state ≠ .egress → s.asserted (.bflt d) = true → Faults d .bridge s1 t) ∧
      ((s.chan d).state ≠ .egress → (s.demand d).kind ≠ .egress → (t.chan d).plaus =
        if s.asserted (.lks d) = true ∧ s.asserted (.cls d) = false then some 10 else (s.chan d).plaus) ∧
      ((s.chan d).state ≠ .egress → s.asserted (.bflt d) = false → (s.demand d).kind ≠ .egress → Settles d s1 t)

/-- R50, R56, R66, R117, R119, R134: what the closed switch does at its channel, outside the faults. Made, it
ends REFERENCING, in LOCKED or LOCKING or, where the record has become OPEN, beyond them, ends the closing in the
lock zone, and completes the pair; broken under a made locked switch, it starts the plausibility timer. -/
def Obligations.ClosedSwitchActsAtItsChannel : Prop :=
  ∀ (d : Door) (lv : Level) (s s1 : State), s.running = true → s.takeSent (.clsAcceptedAtChannel d lv) = some s1 →
    s1.chanInRun d = true → Unhindered d s →
    ∃ t, exec (.clsAcceptedAtChannel d lv) s = .next t ∧
      let c := s.chan d
      let made : Prop := lv = s.cfg.activeLevel .switch
      let inSlide : Prop := c.referenced = true ∧ s.cfg.plugPoint d < c.position.val
      let pair : Prop := s.asserted (.lks d) = true
      let zone : Prop := c.state = .plugIn ∧ c.position.val ≤ s.cfg.lockWindow d
      (made → ¬ inSlide → c.state = .referencing → References d (!s.asserted (.lks d)) s1 t) ∧
      (made → ¬ inSlide → zone → Plain d [] s1 t ∧ if pair then Locks d s1 t else Presses d s1 t) ∧
      (made → ¬ inSlide → pair → c.state = .locking ∨ c.state = .reseat → Locks d s1 t ∧ Plain d [] s1 t) ∧
      (made → ¬ inSlide → pair → c.state = .unreferenced ∨ c.state = .warning → c.referenced = false →
        References d false s1 t) ∧
      (made → ¬ inSlide → c.state ≠ .referencing → ¬ zone →
        ¬ (pair ∧ (c.state = .locking ∨ c.state = .reseat)) →
        ¬ (pair ∧ (c.state = .unreferenced ∨ c.state = .warning) ∧ c.referenced = false) →
        t.chan d = { c with plaus := none } ∧ t.guard d = s.guard d ∧ Plain d [] s1 t) ∧
      (¬ made → c.state ≠ .locked →
        t.chan d = { c with plaus := if pair ∧ c.state ≠ .egress then some 10 else c.plaus } ∧
        t.guard d = s.guard d ∧ Plain d [] s1 t)

/-- R50, R117, R119, R134: what the locked switch does at its channel, outside the faults. Made, it completes the
pair, in LOCKED or, where a reference makes the record OPEN, beyond it, or starts the plausibility timer; broken, it
ends UNLOCKING in PLUG_OUT. -/
def Obligations.LockedSwitchActsAtItsChannel : Prop :=
  ∀ (d : Door) (lv : Level) (s s1 : State), s.running = true → s.takeSent (.lksAcceptedAtChannel d lv) = some s1 →
    s1.chanInRun d = true → Unhindered d s →
    ∃ t, exec (.lksAcceptedAtChannel d lv) s = .next t ∧
      let c := s.chan d
      let made : Prop := lv = s.cfg.activeLevel .switch
      let pair : Prop := s.asserted (.cls d) = true
      let locks : Prop := c.state = .locking ∨ c.state = .reseat
      let refers : Prop := (c.state = .unreferenced ∨ c.state = .warning) ∧ c.referenced = false
      (made → pair → locks → Locks d s1 t ∧ Plain d [] s1 t) ∧
      (made → pair → refers → References d false s1 t) ∧
      (made → pair → ¬ locks → ¬ refers → t.chan d = c ∧ t.guard d = s.guard d ∧ Plain d [] s1 t) ∧
      (made → ¬ pair → t.chan d = { c with plaus := if c.state = .egress then c.plaus else some 10 } ∧
        t.guard d = s.guard d ∧ Plain d [] s1 t) ∧
      (¬ made → c.state = .unlocking → Opens d false s1 t ∧ Plain d [] s1 t) ∧
      (¬ made → c.state ≠ .unlocking → c.state ≠ .locked →
        t.chan d = { c with plaus := none } ∧ t.guard d = s.guard d ∧ Plain d [] s1 t)

/-- R53, R68, R95, R117, R119, R120: the solenoid rests between two unlock waits; a lock wait that ends in
LOCKING presses again with BOOST in RESEAT; the end of the reversal pause acts on the demand; the end of the
retry wait retries under an OPEN demand; a flash phase toggles the lamp. A wait that does not run does not end (log
8). -/
def Obligations.ChannelWaitsEnd : Prop :=
  (∀ (d : Door) (s : State), Moving d s → s.asserted (.bflt d) = false →
     (∃ t, exec (.unlockWaitExpiry d) s = .next t ∧
       ((s.chan d).unlock = none → t.chan d = s.chan d ∧ t.guard d = s.guard d ∧ Plain d [] s t) ∧
       (∀ n, (s.chan d).unlock = some (.first, n) →
         t.chan d = { s.chan d with unlock := some (.pause, 10), solenoid := false } ∧
         t.guard d = s.guard d ∧ Plain d [] s t) ∧
       (∀ n, (s.chan d).unlock = some (.pause, n) →
         t.chan d = { s.chan d with unlock := some (.second, s.cfg.unlockTime d), solenoid := true } ∧
         t.guard d = s.guard d ∧ Plain d [] s t)) ∧
     (∃ t, exec (.lockWaitExpiry d) s = .next t ∧
       ((s.chan d).lockWait = none → t.chan d = s.chan d ∧ t.guard d = s.guard d ∧ Plain d [] s t) ∧
       ((s.chan d).lockWait ≠ none → (s.chan d).state = .locking →
         Outputs (t.chan d) .reseat
           (.driveClose (BitVec.ofNat 8 (min 255 ((s.cfg.pressLevel d).toNat + (s.cfg.boost d).toNat)))) false .on ∧
         Timers (t.chan d) none none none none (some (s.cfg.lockTime d)) none ∧
         SameLeaf (s.chan d) (t.chan d) ∧ Resting (t.guard d) ∧ SameReopen (s.guard d) (t.guard d) ∧
         SameRetry (s.guard d) (t.guard d) ∧ Plain d [] s t))) ∧
  (∀ (d : Door) (s : State), Moving d s → Unhindered d s →
     (∃ t, exec (.reversalPauseExpiry d) s = .next t ∧
       ((s.chan d).pause = none → t.chan d = s.chan d ∧ t.guard d = s.guard d ∧ Plain d [] s t) ∧
       ((s.chan d).pause ≠ none → (s.demand d).kind = .opens → ∀ tg ∈ (s.demand d).target, OpensByPosition d tg s t) ∧
       ((s.chan d).pause ≠ none → (s.demand d).kind = .closes ∨ (s.demand d).kind = .isolated →
         Warns d s t ∧ SameRetry (s.guard d) (t.guard d) ∧ Plain d [] s t)) ∧
     (∃ t, exec (.retryWaitExpiry d) s = .next t ∧
       ((s.chan d).retryWait = none ∨ (s.demand d).kind ≠ .opens →
         t.chan d = s.chan d ∧ t.guard d = s.guard d ∧ Plain d [] s t) ∧
       ((s.chan d).retryWait ≠ none → (s.demand d).kind = .opens →
         ∀ tg ∈ (s.demand d).target, OpensByPosition d tg s t))) ∧
  (∀ (d : Door) (s : State), s.running = true →
     ∃ t, exec (.flashPhaseExpiry d) s = .next t ∧ Plain d [] s t ∧ t.guard d = s.guard d ∧
       t.chan d = { s.chan d with lamp := match (s.chan d).lamp with
         | .flashing lit => .flashing (!lit)
         | .off => .off
         | .on => .on })

/-- R56, R63, R65, R66, R81, R82: the end of the warning interval. A referenced leaf closes by its position, or
presses where it already stands in the lock zone; an unreferenced one references, or takes its reference at once. An
edge held asserted, or a force where BLANK_STEPS is 0, is detected at the first moment of closing; where both are, the
edge is taken first, an order that R85 leaves open and the model chooses (log 16). An expiry of an interval that does
not run does nothing (log 8). -/
def Obligations.WarningEndsInClosing : Prop :=
  ∀ (d : Door) (s : State), Moving d s → s.asserted (.bflt d) = false →
    let ch := s.chan d
    let slide := decide (s.cfg.plugPoint d < ch.position.val)
    let locks : Prop := ch.position.val ≤ s.cfg.lockWindow d ∧ ch.position.val ≤ s.cfg.plugPoint d ∧
      s.asserted (.cls d) = true
    let edge : Prop := s.asserted (.edge d) = true ∧
      edgeSees s d (if ch.referenced then (if slide then .slideClose else .plugIn) else .referencing)
        ch.position.val = true
    ∃ t, exec (.warningIntervalExpiry d) s = .next t ∧
      (ch.warn = none → t.chan d = ch ∧ t.guard d = s.guard d ∧ Plain d [] s t) ∧
      (ch.warn ≠ none → ch.referenced = true →
        if locks then Plain d [] s t ∧ if s.asserted (.lks d) = true then Locks d s t else Presses d s t
        else if edge then Detects d .edge s t
        else if Strained d s then Detects d .force s t
        else Closes d slide s t ∧ Plain d [] s t) ∧
      (ch.warn ≠ none → ch.referenced = false →
        if s.asserted (.cls d) = true then ¬ Strained d s → References d (!s.asserted (.lks d)) s t
        else if edge then Detects d .edge s t
        else if Strained d s then Detects d .force s t
        else
          Outputs (t.chan d) .referencing (.driveClose (s.cfg.refLevel d)) false .on ∧
          (t.chan d).threshold = s.cfg.closeForce d 0 ∧
          Timers (t.chan d) none none (some (.referencing, 2 * s.cfg.travelClose d)) none none none ∧
          SameLeaf (s.chan d) (t.chan d) ∧ Watching s d (t.guard d) ∧ SameReopen (s.guard d) (t.guard d) ∧
          SameRetry (s.guard d) (t.guard d) ∧ Plain d [] s t)

/-- R81, R82, R84, R86, R88, R94: an edge, force or stall detection in a closing motion relieves the leaf; a
force or stall in an opening motion blocks it, or, for a stall inside the end window, ends in OPEN. A step out of the
muted zone finds a held edge, the step that completes blanking a held force, and so does the beginning of an opening
motion where BLANK_STEPS is 0 (that of a closing motion: WarningEndsInClosing). What is not watched is passed over.
Where a step finds both, the edge is taken first, an order that R85 leaves open and the model chooses (log 16). A
grace that does not run ends in nothing (log 8). -/
def Obligations.DetectionsRelieveOrBlock : Prop :=
  ∀ (d : Door) (s : State), s.running = true → s.asserted (.bflt d) = false →
    let ch := s.chan d
    let g := s.guard d
    let stands := fun (s1 t : State) => t.chan d = ch ∧ t.guard d = g ∧ Plain d [] s1 t
    let closing : Prop := ch.state = .slideClose ∨ ch.state = .plugIn ∨ ch.state = .referencing
    let opening : Prop := ch.state = .plugOut ∨ ch.state = .slideOpen
    (∀ lv s1, s.takeSent (.edgeAcceptedAtGuard d lv) = some s1 → s1.chanInRun d = true →
      ∃ t, exec (.edgeAcceptedAtGuard d lv) s = .next t ∧
        if lv = s.cfg.activeLevel .edge ∧ edgeSees s d ch.state ch.position.val = true
        then Detects d .edge s1 t else stands s1 t) ∧
    (∀ lv s1, s.takeSent (.frcAcceptedAtGuard d lv) = some s1 → s1.chanInRun d = true →
      ∃ t, exec (.frcAcceptedAtGuard d lv) s = .next t ∧
        if lv = s.cfg.activeLevel .drive ∧ s.cfg.blankSteps d ≤ g.blank ∧ (closing ∨ opening)
        then (closing → Detects d .force s1 t) ∧ (opening → Blocks d s1 t) else stands s1 t) ∧
    (s.chanInRun d = true → ∃ t, exec (.stallGraceExpiry d) s = .next t ∧
      (g.stage = .warn → closing → Detects d .stall s t) ∧
      (g.stage = .warn → opening → Unhindered d s →
        if ∃ tg ∈ (s.demand d).target, tg ≤ ch.position.val + s.cfg.endWindow d
        then Arrives d s t ∧ SameLeaf ch (t.chan d) ∧ Plain d [.countdownStart d] s t
        else Blocks d s t) ∧
      (g.stage ≠ .warn → stands s t)) ∧
    (∀ dir, s.chanInRun d = true → StepCounts s d dir → ¬ ClosedInSlide s d dir →
      let p := stepTo s d dir
      let edge : Prop := s.asserted (.edge d) = true ∧ edgeSees s d ch.state ch.position.val = false ∧
        edgeSees s d (phaseAt s d ch.state p.val) p.val = true
      let force : Prop := s.asserted (.frc d) = true ∧ g.blank < s.cfg.blankSteps d ∧
        g.blank + 1 = s.cfg.blankSteps d
      closing ∨ opening → ¬ ReachesLockZone s d p.val → ¬ ReachesTarget s d p.val → edge ∨ force →
      ∃ t, exec (.encoderStep d dir) s = .next t ∧
        (edge → Detects d .edge (leafMoved d p s t) t) ∧
        (¬ edge → closing → Detects d .force (leafMoved d p s t) t) ∧
        (¬ edge → opening → Blocks d (leafMoved d p s t) t)) ∧
    (Strained d s →
      (∀ lv s1, s.takeSent (.lksAcceptedAtChannel d lv) = some s1 → s1.chanInRun d = true →
        ch.state = .unlocking → lv ≠ s.cfg.activeLevel .switch →
        ∃ t, exec (.lksAcceptedAtChannel d lv) s = .next t ∧
          Blocks d (s1.modChan d (fun c => { c with plaus := none })) t) ∧
      (∀ c tg, s.chanInRun d = true → (c = .reversalPauseExpiry d ∧ ch.pause ≠ none) ∨
        (c = .retryWaitExpiry d ∧ ch.retryWait ≠ none) → (s.demand d).kind = .opens → (s.demand d).target = some tg →
        ch.position.val + s.cfg.endWindow d < tg → ∃ t, exec c s = .next t ∧ Blocks d s t))

/-- R83, R88, R90: the stall interval that runs out with no step adds BOOST to the drive and starts the grace; in
RELIEF it ends the relief; a step in REFERENCING takes the drive back to REF_LEVEL. An interval that does not run (stage
IDLE or WARN) does not end (log 8). -/
def Obligations.StallIntervalBoostsTheDrive : Prop :=
  ∀ (d : Door) (s : State), Moving d s → Unhindered d s →
    let raised := fun (l : Byte) => BitVec.ofNat 8 (min 255 (l.toNat + (s.cfg.boost d).toNat))
    (∃ t, exec (.stallIntervalExpiry d) s = .next t ∧
      ((s.guard d).stage = .normal →
        t.chan d = { s.chan d with drive := match (s.chan d).drive with
          | .driveOpen l => .driveOpen (raised l)
          | .driveClose l => .driveClose (raised l)
          | .free => .free
          | .brake => .brake } ∧
        t.guard d = { s.guard d with stage := .warn, stallTimer := some (s.cfg.stallGrace d) } ∧ Plain d [] s t) ∧
      ((s.guard d).stage = .single → (s.chan d).state = .relief → ReliefEnds d s t) ∧
      ((s.guard d).stage = .idle ∨ (s.guard d).stage = .warn →
        t.chan d = s.chan d ∧ t.guard d = s.guard d ∧ Plain d [] s t)) ∧
    (∀ dir, (s.chan d).state = .referencing → (s.chan d).referenced = false →
      ∃ t, exec (.encoderStep d dir) s = .next t ∧ (t.chan d).state = .referencing ∧
        (t.chan d).drive = .driveClose (s.cfg.refLevel d) ∧ (t.guard d).stage = .normal ∧
        (t.guard d).stallTimer = some (s.cfg.stallInterval d) ∧ Plain d [] s t)

/-- R129 to R137: every fault cause, at the event that finds it, is recorded and noticed, and takes the channel to
FAULTED with its outputs off, unless a record or EGRESS already stands. BRIDGE is found at an entry into a braking or
driving state too, with that state as the first, be the entry made at an event of the channel or by a delivered record
(by a CLEAR_OBSTRUCTION: ClearObstructionZeroesRecords), and CLOSED_IN_SLIDE at the step from PLUG_POINT (after the
step's geometry, log 16); no record stands then. A bridge line that drops, or asserts on a free drive, a timer that
does not run (log 8), and an illegal transition in CONFIGURE or before the channel has taken the entry into RUN (log
15) are no cause. -/
def Obligations.FaultCausesEnterFaulted : Prop :=
  (∀ (c : Instr) (d : Door) (cause : FaultCause) (s s1 : State), s.running = true →
     (if route c = none then s1 = s else s.takeSent c = some s1) → s1.chanInRun d = true → FindsCause c d cause s1 →
     ∃ t, exec c s = .next t ∧ Faults d cause s1 t ∧ (t.chan d).position = (s.chan d).position) ∧
  (∀ (c : Instr) (d : Door) (cause : FaultCause) (s s1 v : State), s.running = true →
     (if route c = none then s1 = s else s.takeSent c = some s1) → s1.chanInRun d = true →
     (s.chan d).fault = none → (s.chan d).state ≠ .egress → (s.chan d).state ≠ .faulted →
     (cause = .bridge ∧ s.asserted (.bflt d) = true ∧ EntersDriven c d s1 v) ∨
     (cause = .switch .closedInSlide ∧ StepsIntoSlide c d s1 v) →
     ∃ t, exec c s = .next t ∧ Faults d cause v t ∧ (t.chan d).position = (v.chan d).position) ∧
  (∀ (d : Door) (s v : State), s.chanInRun d = true → s.asserted (.bflt d) = true → (s.chan d).fault = none →
     EntersByRecord d s v →
     Faults d .bridge v (recomputeDoor d s) ∧
     ((recomputeDoor d s).chan d).position = (s.chan d).position) ∧
  (∀ (c : Instr) (d : Door) (s s1 : State), s.running = true →
     (if route c = none then s1 = s else s.takeSent c = some s1) →
     (∃ lv, c = .bfltAcceptedAtChannel d lv ∧ (lv ≠ s.cfg.activeLevel .drive ∨ (s.chan d).drive = .free)) ∨
     (c = .travelTimerExpiry d ∧ (s.chan d).travel = none) ∨
     (c = .plausibilityTimerExpiry d ∧ (s.chan d).plaus = none) ∨
     (c = .illegalTransition d ∧ s.chanInRun d = false) →
     ∃ t, exec c s = .next t ∧ Plain d [] s1 t ∧ t.guard d = s.guard d ∧
       { t.chan d with encA := (s.chan d).encA, encB := (s.chan d).encB } = s.chan d ∧
       if c = .illegalTransition d
       then (t.chan d).encA ≠ (s.chan d).encA ∧ (t.chan d).encB ≠ (s.chan d).encB
       else t.chan d = s.chan d)

/-! ### The Car Loop Unit (Chapter 6) -/

/-- R121, R122, R124, R125: a switch level or a channel state taken at the unit sets its copy and the doorway's
proven flag; a flag that sets is told to the table; in RUN the stage goes to PROVING once every fitted
doorway is proven, and to UNPROVEN with the loop open as soon as one is not. RUN is the mode of the part for this unit
(log 43). -/
def Obligations.ProvenFlagsDriveTheStage : Prop :=
  ∀ (c : Instr) (d : Door) (x : CluDoor) (s s1 : State), s.running = true → s.takeSent c = some s1 →
    (∃ lv, c = .provenFlagUpdate d .closed lv ∧ x = { s.cluDoor d with cls := lv }) ∨
    (∃ lv, c = .provenFlagUpdate d .locked lv ∧ x = { s.cluDoor d with lks := lv }) ∨
    (∃ st, c = .channelStateAtClu d st ∧ x = { s.cluDoor d with chState := st }) →
    let flag := s.fitted d && decide (x.cls = s.cfg.activeLevel .switch) &&
      decide (x.lks = s.cfg.activeLevel .switch) && (decide (x.chState = .locked) || decide (x.chState = .faulted))
    let all : Prop := ∀ e, s.fitted e = true → if e = d then flag = true else (s.cluDoor e).proven = true
    ∃ t, exec c s = .next t ∧ SameControl s t ∧ t.slots = s.slots ∧ SameDoors s t ∧ SameLines s t ∧
      t.free = s.free ∧ SameLink .t s t ∧ SameLink .s s t ∧ t.clu.zspd = s.clu.zspd ∧
      t.clu.movingUnproven = s.clu.movingUnproven ∧
      t.cluDoor d = { x with proven := flag } ∧ (∀ e, e ≠ d → t.cluDoor e = s.cluDoor e) ∧
      t.sent = s1.sent ++ (if flag = true ∧ (s.cluDoor d).proven = false then [.provenEvent d] else []) ∧
      (if s.mode = .run ∧ ¬ all then
        t.clu.stage = .unproven ∧ t.clu.timer = none ∧ t.clu.loop = false ∧
        (if s.clu.loop = true then ∀ p, (t.port p).kinds = (s.port p).kinds ||| 0x20#8 else NoNotice s t)
       else t.clu.loop = s.clu.loop ∧ NoNotice s t ∧
        if s.mode = .run ∧ s.clu.stage = .unproven
        then t.clu.stage = .proving ∧ t.clu.timer = some s.cfg.proveTime
        else t.clu.stage = s.clu.stage ∧ t.clu.timer = s.clu.timer)

/-- R124, R125, R126: the end of proving closes the loop with a LOOP notice; ZSPD taken in RUN sets the
moving-unproven indication where the car leaves zero speed with the loop open, and clears it at zero speed. A proving
timer that does not run does not end (log 8); RUN is the mode of the part for this unit (log 43). -/
def Obligations.LoopClosesAndMovingIsMarked : Prop :=
  (∀ s : State, s.running = true → ∃ t, exec .provingTimerExpiry s = .next t ∧ SameControl s t ∧
    t.slots = s.slots ∧ SameDoors s t ∧ SameLines s t ∧ t.free = s.free ∧ t.sent = s.sent ∧ SameLink .t s t ∧
    SameLink .s s t ∧ t.clu.doors = s.clu.doors ∧ t.clu.zspd = s.clu.zspd ∧
    t.clu.movingUnproven = s.clu.movingUnproven ∧
    if s.clu.stage = .proving then
      t.clu.stage = .proven ∧ t.clu.timer = none ∧ t.clu.loop = true ∧
      (s.clu.loop = false → ∀ p, (t.port p).kinds = (s.port p).kinds ||| 0x20#8)
    else t.clu = s.clu ∧ NoNotice s t) ∧
  (∀ (lv : Level) (s s1 : State), s.running = true → s.takeSent (.zspdAtClu lv) = some s1 →
    ∃ t, exec (.zspdAtClu lv) s = .next t ∧ SameControl s t ∧ t.slots = s.slots ∧ SameDoors s t ∧
      SameLines s t ∧ t.free = s.free ∧ t.sent = s1.sent ∧ SameLink .t s t ∧ SameLink .s s t ∧ NoNotice s t ∧
      t.clu = { s.clu with
        zspd := lv
        movingUnproven :=
          if s.mode = .configure then s.clu.movingUnproven
          else if lv = s.cfg.activeLevel .release then false
          else if s.clu.loop then s.clu.movingUnproven else true })

/-! ### Invariants that every step keeps -/

/-- R1, R3, R6, R9, R10, R11: the Hold Table stays well formed and the link issuers within their quotas. -/
def Obligations.StepsKeepTheTable : Prop := Kept TableOk ∧ Kept QuotasOk

/-- R30, R32, R75, R79: in CONFIGURE the table is empty and every doorway is quiet. -/
def Obligations.StepsKeepConfigureQuiet : Prop := Kept ConfigureQuiet

/-- R124, R125: the loop is closed only in PROVEN, in RUN, with every fitted doorway proven. -/
def Obligations.StepsKeepTheLoopSafe : Prop := Kept LoopOk

/-- R160, R164, R166, R170: answer slots, buffers, receivers and supervision timers stay consistent. -/
def Obligations.StepsKeepTheLink : Prop := Kept LinkOk

/-- R53, R173, Table 3-2, R116, R117, R180: chimes and attention lines follow what they stand for; drive, solenoid and
lamp fit the channel state, the solenoid of PLUG_OUT the lock zone, and an unlock wait runs in UNLOCKING alone; an
unfitted channel stays UNFITTED; a held part drives nothing and lights nothing. -/
def Obligations.StepsKeepTheOutputs : Prop := Kept SignalsOk ∧ Kept OutputsOk

/-- R41, R43: in RUN every record is the table's, and no doorway opens without an OPEN demand. -/
def Obligations.StepsKeepTheDemands : Prop := Kept DemandsOk

/-- R78, R86, R91, R96, R97: the obstruction records stay sound. -/
def Obligations.StepsKeepTheObstructionRecords : Prop := Kept ObstructionOk

/-- R159, R176, R177: the working configuration, and every image that a start may load, stays in range. What is
in range rests on logs 21 and 46. -/
def Obligations.StepsKeepTheConfiguration : Prop := Kept ConfigOk
end

