-- ==== Sys2Proof/Laws/State.lean ====
section
/-! SUPPORT. One lemma per field of State per update: what each named update leaves alone, and what it writes. -/

namespace Sys2Proof.Machine

/-! ### setChan -/

@[simp] theorem State.setChan_pending (s : State) (d : Door) (c : Channel) : (s.setChan d c).pending = s.pending := rfl
@[simp] theorem State.setChan_sent (s : State) (d : Door) (c : Channel) : (s.setChan d c).sent = s.sent := rfl
@[simp] theorem State.setChan_free (s : State) (d : Door) (c : Channel) : (s.setChan d c).free = s.free := rfl
@[simp] theorem State.setChan_supply (s : State) (d : Door) (c : Channel) : (s.setChan d c).supply = s.supply := rfl
@[simp] theorem State.setChan_resetLine (s : State) (d : Door) (c : Channel) : (s.setChan d c).resetLine = s.resetLine := rfl
@[simp] theorem State.setChan_mode (s : State) (d : Door) (c : Channel) : (s.setChan d c).mode = s.mode := rfl
@[simp] theorem State.setChan_resetCause (s : State) (d : Door) (c : Channel) : (s.setChan d c).resetCause = s.resetCause := rfl
@[simp] theorem State.setChan_epochCell (s : State) (d : Door) (c : Channel) : (s.setChan d c).epochCell = s.epochCell := rfl
@[simp] theorem State.setChan_epochOld (s : State) (d : Door) (c : Channel) : (s.setChan d c).epochOld = s.epochOld := rfl
@[simp] theorem State.setChan_cfg (s : State) (d : Door) (c : Channel) : (s.setChan d c).cfg = s.cfg := rfl
@[simp] theorem State.setChan_source (s : State) (d : Door) (c : Channel) : (s.setChan d c).source = s.source := rfl
@[simp] theorem State.setChan_stored (s : State) (d : Door) (c : Channel) : (s.setChan d c).stored = s.stored := rfl
@[simp] theorem State.setChan_store (s : State) (d : Door) (c : Channel) : (s.setChan d c).store = s.store := rfl
@[simp] theorem State.setChan_pwm (s : State) (d : Door) (c : Channel) : (s.setChan d c).pwm = s.pwm := rfl
@[simp] theorem State.setChan_epoch (s : State) (d : Door) (c : Channel) : (s.setChan d c).epoch = s.epoch := rfl
@[simp] theorem State.setChan_slots (s : State) (d : Door) (c : Channel) : (s.setChan d c).slots = s.slots := rfl
@[simp] theorem State.setChan_demands (s : State) (d : Door) (c : Channel) : (s.setChan d c).demands = s.demands := rfl
@[simp] theorem State.setChan_chime0 (s : State) (d : Door) (c : Channel) : (s.setChan d c).chime0 = s.chime0 := rfl
@[simp] theorem State.setChan_chime1 (s : State) (d : Door) (c : Channel) : (s.setChan d c).chime1 = s.chime1 := rfl
@[simp] theorem State.setChan_guards (s : State) (d : Door) (c : Channel) : (s.setChan d c).guards = s.guards := rfl
@[simp] theorem State.setChan_lines (s : State) (d : Door) (c : Channel) : (s.setChan d c).lines = s.lines := rfl
@[simp] theorem State.setChan_panelLeft (s : State) (d : Door) (c : Channel) : (s.setChan d c).panelLeft = s.panelLeft := rfl
@[simp] theorem State.setChan_panelRight (s : State) (d : Door) (c : Channel) : (s.setChan d c).panelRight = s.panelRight := rfl
@[simp] theorem State.setChan_clu (s : State) (d : Door) (c : Channel) : (s.setChan d c).clu = s.clu := rfl
@[simp] theorem State.setChan_portT (s : State) (d : Door) (c : Channel) : (s.setChan d c).portT = s.portT := rfl
@[simp] theorem State.setChan_portS (s : State) (d : Door) (c : Channel) : (s.setChan d c).portS = s.portS := rfl
@[simp] theorem State.setChan_guard_of (s : State) (d : Door) (c : Channel) (e : Door) : (s.setChan d c).guard e = s.guard e := rfl
@[simp] theorem State.setChan_demand_of (s : State) (d : Door) (c : Channel) (e : Door) : (s.setChan d c).demand e = s.demand e := rfl
@[simp] theorem State.setChan_slot_of (s : State) (d : Door) (c : Channel) (j : SlotNo) : (s.setChan d c).slot j = s.slot j := rfl
@[simp] theorem State.setChan_hold_of (s : State) (d : Door) (c : Channel) (j : SlotNo) : (s.setChan d c).hold j = s.hold j := rfl
@[simp] theorem State.setChan_cluDoor_of (s : State) (d : Door) (c : Channel) (e : Door) : (s.setChan d c).cluDoor e = s.cluDoor e := rfl
@[simp] theorem State.setChan_filter_of (s : State) (d : Door) (c : Channel) (l : Line) : (s.setChan d c).filter l = s.filter l := rfl
@[simp] theorem State.setChan_asserted_of (s : State) (d : Door) (c : Channel) (l : Line) : (s.setChan d c).asserted l = s.asserted l := rfl
@[simp] theorem State.setChan_fitted_of (s : State) (d : Door) (c : Channel) (e : Door) : (s.setChan d c).fitted e = s.fitted e := rfl
@[simp] theorem State.setChan_running_of (s : State) (d : Door) (c : Channel) : (s.setChan d c).running = s.running := rfl
@[simp] theorem State.setChan_bothMade_of (s : State) (d : Door) (c : Channel) (e : Door) : (s.setChan d c).bothMade e = s.bothMade e := rfl
@[simp] theorem State.setChan_chanInRun_of (s : State) (d : Door) (c : Channel) (e : Door) : (s.setChan d c).chanInRun e = s.chanInRun e := rfl
@[simp] theorem State.setChan_allProven_of (s : State) (d : Door) (c : Channel) : (s.setChan d c).allProven = s.allProven := rfl

/-! ### modChan -/

@[simp] theorem State.modChan_pending (s : State) (d : Door) (f : Channel → Channel) : (s.modChan d f).pending = s.pending := rfl
@[simp] theorem State.modChan_sent (s : State) (d : Door) (f : Channel → Channel) : (s.modChan d f).sent = s.sent := rfl
@[simp] theorem State.modChan_free (s : State) (d : Door) (f : Channel → Channel) : (s.modChan d f).free = s.free := rfl
@[simp] theorem State.modChan_supply (s : State) (d : Door) (f : Channel → Channel) : (s.modChan d f).supply = s.supply := rfl
@[simp] theorem State.modChan_resetLine (s : State) (d : Door) (f : Channel → Channel) : (s.modChan d f).resetLine = s.resetLine := rfl
@[simp] theorem State.modChan_mode (s : State) (d : Door) (f : Channel → Channel) : (s.modChan d f).mode = s.mode := rfl
@[simp] theorem State.modChan_resetCause (s : State) (d : Door) (f : Channel → Channel) : (s.modChan d f).resetCause = s.resetCause := rfl
@[simp] theorem State.modChan_epochCell (s : State) (d : Door) (f : Channel → Channel) : (s.modChan d f).epochCell = s.epochCell := rfl
@[simp] theorem State.modChan_epochOld (s : State) (d : Door) (f : Channel → Channel) : (s.modChan d f).epochOld = s.epochOld := rfl
@[simp] theorem State.modChan_cfg (s : State) (d : Door) (f : Channel → Channel) : (s.modChan d f).cfg = s.cfg := rfl
@[simp] theorem State.modChan_source (s : State) (d : Door) (f : Channel → Channel) : (s.modChan d f).source = s.source := rfl
@[simp] theorem State.modChan_stored (s : State) (d : Door) (f : Channel → Channel) : (s.modChan d f).stored = s.stored := rfl
@[simp] theorem State.modChan_store (s : State) (d : Door) (f : Channel → Channel) : (s.modChan d f).store = s.store := rfl
@[simp] theorem State.modChan_pwm (s : State) (d : Door) (f : Channel → Channel) : (s.modChan d f).pwm = s.pwm := rfl
@[simp] theorem State.modChan_epoch (s : State) (d : Door) (f : Channel → Channel) : (s.modChan d f).epoch = s.epoch := rfl
@[simp] theorem State.modChan_slots (s : State) (d : Door) (f : Channel → Channel) : (s.modChan d f).slots = s.slots := rfl
@[simp] theorem State.modChan_demands (s : State) (d : Door) (f : Channel → Channel) : (s.modChan d f).demands = s.demands := rfl
@[simp] theorem State.modChan_chime0 (s : State) (d : Door) (f : Channel → Channel) : (s.modChan d f).chime0 = s.chime0 := rfl
@[simp] theorem State.modChan_chime1 (s : State) (d : Door) (f : Channel → Channel) : (s.modChan d f).chime1 = s.chime1 := rfl
@[simp] theorem State.modChan_guards (s : State) (d : Door) (f : Channel → Channel) : (s.modChan d f).guards = s.guards := rfl
@[simp] theorem State.modChan_lines (s : State) (d : Door) (f : Channel → Channel) : (s.modChan d f).lines = s.lines := rfl
@[simp] theorem State.modChan_panelLeft (s : State) (d : Door) (f : Channel → Channel) : (s.modChan d f).panelLeft = s.panelLeft := rfl
@[simp] theorem State.modChan_panelRight (s : State) (d : Door) (f : Channel → Channel) : (s.modChan d f).panelRight = s.panelRight := rfl
@[simp] theorem State.modChan_clu (s : State) (d : Door) (f : Channel → Channel) : (s.modChan d f).clu = s.clu := rfl
@[simp] theorem State.modChan_portT (s : State) (d : Door) (f : Channel → Channel) : (s.modChan d f).portT = s.portT := rfl
@[simp] theorem State.modChan_portS (s : State) (d : Door) (f : Channel → Channel) : (s.modChan d f).portS = s.portS := rfl
@[simp] theorem State.modChan_guard_of (s : State) (d : Door) (f : Channel → Channel) (e : Door) : (s.modChan d f).guard e = s.guard e := rfl
@[simp] theorem State.modChan_demand_of (s : State) (d : Door) (f : Channel → Channel) (e : Door) : (s.modChan d f).demand e = s.demand e := rfl
@[simp] theorem State.modChan_slot_of (s : State) (d : Door) (f : Channel → Channel) (j : SlotNo) : (s.modChan d f).slot j = s.slot j := rfl
@[simp] theorem State.modChan_hold_of (s : State) (d : Door) (f : Channel → Channel) (j : SlotNo) : (s.modChan d f).hold j = s.hold j := rfl
@[simp] theorem State.modChan_cluDoor_of (s : State) (d : Door) (f : Channel → Channel) (e : Door) : (s.modChan d f).cluDoor e = s.cluDoor e := rfl
@[simp] theorem State.modChan_filter_of (s : State) (d : Door) (f : Channel → Channel) (l : Line) : (s.modChan d f).filter l = s.filter l := rfl
@[simp] theorem State.modChan_asserted_of (s : State) (d : Door) (f : Channel → Channel) (l : Line) : (s.modChan d f).asserted l = s.asserted l := rfl
@[simp] theorem State.modChan_fitted_of (s : State) (d : Door) (f : Channel → Channel) (e : Door) : (s.modChan d f).fitted e = s.fitted e := rfl
@[simp] theorem State.modChan_running_of (s : State) (d : Door) (f : Channel → Channel) : (s.modChan d f).running = s.running := rfl
@[simp] theorem State.modChan_bothMade_of (s : State) (d : Door) (f : Channel → Channel) (e : Door) : (s.modChan d f).bothMade e = s.bothMade e := rfl
@[simp] theorem State.modChan_chanInRun_of (s : State) (d : Door) (f : Channel → Channel) (e : Door) : (s.modChan d f).chanInRun e = s.chanInRun e := rfl
@[simp] theorem State.modChan_allProven_of (s : State) (d : Door) (f : Channel → Channel) : (s.modChan d f).allProven = s.allProven := rfl

/-! ### setGuard -/

@[simp] theorem State.setGuard_pending (s : State) (d : Door) (g : Guard) : (s.setGuard d g).pending = s.pending := rfl
@[simp] theorem State.setGuard_sent (s : State) (d : Door) (g : Guard) : (s.setGuard d g).sent = s.sent := rfl
@[simp] theorem State.setGuard_free (s : State) (d : Door) (g : Guard) : (s.setGuard d g).free = s.free := rfl
@[simp] theorem State.setGuard_supply (s : State) (d : Door) (g : Guard) : (s.setGuard d g).supply = s.supply := rfl
@[simp] theorem State.setGuard_resetLine (s : State) (d : Door) (g : Guard) : (s.setGuard d g).resetLine = s.resetLine := rfl
@[simp] theorem State.setGuard_mode (s : State) (d : Door) (g : Guard) : (s.setGuard d g).mode = s.mode := rfl
@[simp] theorem State.setGuard_resetCause (s : State) (d : Door) (g : Guard) : (s.setGuard d g).resetCause = s.resetCause := rfl
@[simp] theorem State.setGuard_epochCell (s : State) (d : Door) (g : Guard) : (s.setGuard d g).epochCell = s.epochCell := rfl
@[simp] theorem State.setGuard_epochOld (s : State) (d : Door) (g : Guard) : (s.setGuard d g).epochOld = s.epochOld := rfl
@[simp] theorem State.setGuard_cfg (s : State) (d : Door) (g : Guard) : (s.setGuard d g).cfg = s.cfg := rfl
@[simp] theorem State.setGuard_source (s : State) (d : Door) (g : Guard) : (s.setGuard d g).source = s.source := rfl
@[simp] theorem State.setGuard_stored (s : State) (d : Door) (g : Guard) : (s.setGuard d g).stored = s.stored := rfl
@[simp] theorem State.setGuard_store (s : State) (d : Door) (g : Guard) : (s.setGuard d g).store = s.store := rfl
@[simp] theorem State.setGuard_pwm (s : State) (d : Door) (g : Guard) : (s.setGuard d g).pwm = s.pwm := rfl
@[simp] theorem State.setGuard_epoch (s : State) (d : Door) (g : Guard) : (s.setGuard d g).epoch = s.epoch := rfl
@[simp] theorem State.setGuard_slots (s : State) (d : Door) (g : Guard) : (s.setGuard d g).slots = s.slots := rfl
@[simp] theorem State.setGuard_demands (s : State) (d : Door) (g : Guard) : (s.setGuard d g).demands = s.demands := rfl
@[simp] theorem State.setGuard_chans (s : State) (d : Door) (g : Guard) : (s.setGuard d g).chans = s.chans := rfl
@[simp] theorem State.setGuard_chime0 (s : State) (d : Door) (g : Guard) : (s.setGuard d g).chime0 = s.chime0 := rfl
@[simp] theorem State.setGuard_chime1 (s : State) (d : Door) (g : Guard) : (s.setGuard d g).chime1 = s.chime1 := rfl
@[simp] theorem State.setGuard_lines (s : State) (d : Door) (g : Guard) : (s.setGuard d g).lines = s.lines := rfl
@[simp] theorem State.setGuard_panelLeft (s : State) (d : Door) (g : Guard) : (s.setGuard d g).panelLeft = s.panelLeft := rfl
@[simp] theorem State.setGuard_panelRight (s : State) (d : Door) (g : Guard) : (s.setGuard d g).panelRight = s.panelRight := rfl
@[simp] theorem State.setGuard_clu (s : State) (d : Door) (g : Guard) : (s.setGuard d g).clu = s.clu := rfl
@[simp] theorem State.setGuard_portT (s : State) (d : Door) (g : Guard) : (s.setGuard d g).portT = s.portT := rfl
@[simp] theorem State.setGuard_portS (s : State) (d : Door) (g : Guard) : (s.setGuard d g).portS = s.portS := rfl
@[simp] theorem State.setGuard_chan_of (s : State) (d : Door) (g : Guard) (e : Door) : (s.setGuard d g).chan e = s.chan e := rfl
@[simp] theorem State.setGuard_demand_of (s : State) (d : Door) (g : Guard) (e : Door) : (s.setGuard d g).demand e = s.demand e := rfl
@[simp] theorem State.setGuard_slot_of (s : State) (d : Door) (g : Guard) (j : SlotNo) : (s.setGuard d g).slot j = s.slot j := rfl
@[simp] theorem State.setGuard_hold_of (s : State) (d : Door) (g : Guard) (j : SlotNo) : (s.setGuard d g).hold j = s.hold j := rfl
@[simp] theorem State.setGuard_cluDoor_of (s : State) (d : Door) (g : Guard) (e : Door) : (s.setGuard d g).cluDoor e = s.cluDoor e := rfl
@[simp] theorem State.setGuard_filter_of (s : State) (d : Door) (g : Guard) (l : Line) : (s.setGuard d g).filter l = s.filter l := rfl
@[simp] theorem State.setGuard_asserted_of (s : State) (d : Door) (g : Guard) (l : Line) : (s.setGuard d g).asserted l = s.asserted l := rfl
@[simp] theorem State.setGuard_fitted_of (s : State) (d : Door) (g : Guard) (e : Door) : (s.setGuard d g).fitted e = s.fitted e := rfl
@[simp] theorem State.setGuard_running_of (s : State) (d : Door) (g : Guard) : (s.setGuard d g).running = s.running := rfl
@[simp] theorem State.setGuard_bothMade_of (s : State) (d : Door) (g : Guard) (e : Door) : (s.setGuard d g).bothMade e = s.bothMade e := rfl
@[simp] theorem State.setGuard_chanInRun_of (s : State) (d : Door) (g : Guard) (e : Door) : (s.setGuard d g).chanInRun e = s.chanInRun e := rfl
@[simp] theorem State.setGuard_allProven_of (s : State) (d : Door) (g : Guard) : (s.setGuard d g).allProven = s.allProven := rfl

/-! ### modGuard -/

@[simp] theorem State.modGuard_pending (s : State) (d : Door) (f : Guard → Guard) : (s.modGuard d f).pending = s.pending := rfl
@[simp] theorem State.modGuard_sent (s : State) (d : Door) (f : Guard → Guard) : (s.modGuard d f).sent = s.sent := rfl
@[simp] theorem State.modGuard_free (s : State) (d : Door) (f : Guard → Guard) : (s.modGuard d f).free = s.free := rfl
@[simp] theorem State.modGuard_supply (s : State) (d : Door) (f : Guard → Guard) : (s.modGuard d f).supply = s.supply := rfl
@[simp] theorem State.modGuard_resetLine (s : State) (d : Door) (f : Guard → Guard) : (s.modGuard d f).resetLine = s.resetLine := rfl
@[simp] theorem State.modGuard_mode (s : State) (d : Door) (f : Guard → Guard) : (s.modGuard d f).mode = s.mode := rfl
@[simp] theorem State.modGuard_resetCause (s : State) (d : Door) (f : Guard → Guard) : (s.modGuard d f).resetCause = s.resetCause := rfl
@[simp] theorem State.modGuard_epochCell (s : State) (d : Door) (f : Guard → Guard) : (s.modGuard d f).epochCell = s.epochCell := rfl
@[simp] theorem State.modGuard_epochOld (s : State) (d : Door) (f : Guard → Guard) : (s.modGuard d f).epochOld = s.epochOld := rfl
@[simp] theorem State.modGuard_cfg (s : State) (d : Door) (f : Guard → Guard) : (s.modGuard d f).cfg = s.cfg := rfl
@[simp] theorem State.modGuard_source (s : State) (d : Door) (f : Guard → Guard) : (s.modGuard d f).source = s.source := rfl
@[simp] theorem State.modGuard_stored (s : State) (d : Door) (f : Guard → Guard) : (s.modGuard d f).stored = s.stored := rfl
@[simp] theorem State.modGuard_store (s : State) (d : Door) (f : Guard → Guard) : (s.modGuard d f).store = s.store := rfl
@[simp] theorem State.modGuard_pwm (s : State) (d : Door) (f : Guard → Guard) : (s.modGuard d f).pwm = s.pwm := rfl
@[simp] theorem State.modGuard_epoch (s : State) (d : Door) (f : Guard → Guard) : (s.modGuard d f).epoch = s.epoch := rfl
@[simp] theorem State.modGuard_slots (s : State) (d : Door) (f : Guard → Guard) : (s.modGuard d f).slots = s.slots := rfl
@[simp] theorem State.modGuard_demands (s : State) (d : Door) (f : Guard → Guard) : (s.modGuard d f).demands = s.demands := rfl
@[simp] theorem State.modGuard_chans (s : State) (d : Door) (f : Guard → Guard) : (s.modGuard d f).chans = s.chans := rfl
@[simp] theorem State.modGuard_chime0 (s : State) (d : Door) (f : Guard → Guard) : (s.modGuard d f).chime0 = s.chime0 := rfl
@[simp] theorem State.modGuard_chime1 (s : State) (d : Door) (f : Guard → Guard) : (s.modGuard d f).chime1 = s.chime1 := rfl
@[simp] theorem State.modGuard_lines (s : State) (d : Door) (f : Guard → Guard) : (s.modGuard d f).lines = s.lines := rfl
@[simp] theorem State.modGuard_panelLeft (s : State) (d : Door) (f : Guard → Guard) : (s.modGuard d f).panelLeft = s.panelLeft := rfl
@[simp] theorem State.modGuard_panelRight (s : State) (d : Door) (f : Guard → Guard) : (s.modGuard d f).panelRight = s.panelRight := rfl
@[simp] theorem State.modGuard_clu (s : State) (d : Door) (f : Guard → Guard) : (s.modGuard d f).clu = s.clu := rfl
@[simp] theorem State.modGuard_portT (s : State) (d : Door) (f : Guard → Guard) : (s.modGuard d f).portT = s.portT := rfl
@[simp] theorem State.modGuard_portS (s : State) (d : Door) (f : Guard → Guard) : (s.modGuard d f).portS = s.portS := rfl
@[simp] theorem State.modGuard_chan_of (s : State) (d : Door) (f : Guard → Guard) (e : Door) : (s.modGuard d f).chan e = s.chan e := rfl
@[simp] theorem State.modGuard_demand_of (s : State) (d : Door) (f : Guard → Guard) (e : Door) : (s.modGuard d f).demand e = s.demand e := rfl
@[simp] theorem State.modGuard_slot_of (s : State) (d : Door) (f : Guard → Guard) (j : SlotNo) : (s.modGuard d f).slot j = s.slot j := rfl
@[simp] theorem State.modGuard_hold_of (s : State) (d : Door) (f : Guard → Guard) (j : SlotNo) : (s.modGuard d f).hold j = s.hold j := rfl
@[simp] theorem State.modGuard_cluDoor_of (s : State) (d : Door) (f : Guard → Guard) (e : Door) : (s.modGuard d f).cluDoor e = s.cluDoor e := rfl
@[simp] theorem State.modGuard_filter_of (s : State) (d : Door) (f : Guard → Guard) (l : Line) : (s.modGuard d f).filter l = s.filter l := rfl
@[simp] theorem State.modGuard_asserted_of (s : State) (d : Door) (f : Guard → Guard) (l : Line) : (s.modGuard d f).asserted l = s.asserted l := rfl
@[simp] theorem State.modGuard_fitted_of (s : State) (d : Door) (f : Guard → Guard) (e : Door) : (s.modGuard d f).fitted e = s.fitted e := rfl
@[simp] theorem State.modGuard_running_of (s : State) (d : Door) (f : Guard → Guard) : (s.modGuard d f).running = s.running := rfl
@[simp] theorem State.modGuard_bothMade_of (s : State) (d : Door) (f : Guard → Guard) (e : Door) : (s.modGuard d f).bothMade e = s.bothMade e := rfl
@[simp] theorem State.modGuard_chanInRun_of (s : State) (d : Door) (f : Guard → Guard) (e : Door) : (s.modGuard d f).chanInRun e = s.chanInRun e := rfl
@[simp] theorem State.modGuard_allProven_of (s : State) (d : Door) (f : Guard → Guard) : (s.modGuard d f).allProven = s.allProven := rfl

/-! ### setDemand -/

@[simp] theorem State.setDemand_pending (s : State) (d : Door) (r : Demand) : (s.setDemand d r).pending = s.pending := rfl
@[simp] theorem State.setDemand_sent (s : State) (d : Door) (r : Demand) : (s.setDemand d r).sent = s.sent := rfl
@[simp] theorem State.setDemand_free (s : State) (d : Door) (r : Demand) : (s.setDemand d r).free = s.free := rfl
@[simp] theorem State.setDemand_supply (s : State) (d : Door) (r : Demand) : (s.setDemand d r).supply = s.supply := rfl
@[simp] theorem State.setDemand_resetLine (s : State) (d : Door) (r : Demand) : (s.setDemand d r).resetLine = s.resetLine := rfl
@[simp] theorem State.setDemand_mode (s : State) (d : Door) (r : Demand) : (s.setDemand d r).mode = s.mode := rfl
@[simp] theorem State.setDemand_resetCause (s : State) (d : Door) (r : Demand) : (s.setDemand d r).resetCause = s.resetCause := rfl
@[simp] theorem State.setDemand_epochCell (s : State) (d : Door) (r : Demand) : (s.setDemand d r).epochCell = s.epochCell := rfl
@[simp] theorem State.setDemand_epochOld (s : State) (d : Door) (r : Demand) : (s.setDemand d r).epochOld = s.epochOld := rfl
@[simp] theorem State.setDemand_cfg (s : State) (d : Door) (r : Demand) : (s.setDemand d r).cfg = s.cfg := rfl
@[simp] theorem State.setDemand_source (s : State) (d : Door) (r : Demand) : (s.setDemand d r).source = s.source := rfl
@[simp] theorem State.setDemand_stored (s : State) (d : Door) (r : Demand) : (s.setDemand d r).stored = s.stored := rfl
@[simp] theorem State.setDemand_store (s : State) (d : Door) (r : Demand) : (s.setDemand d r).store = s.store := rfl
@[simp] theorem State.setDemand_pwm (s : State) (d : Door) (r : Demand) : (s.setDemand d r).pwm = s.pwm := rfl
@[simp] theorem State.setDemand_epoch (s : State) (d : Door) (r : Demand) : (s.setDemand d r).epoch = s.epoch := rfl
@[simp] theorem State.setDemand_slots (s : State) (d : Door) (r : Demand) : (s.setDemand d r).slots = s.slots := rfl
@[simp] theorem State.setDemand_chans (s : State) (d : Door) (r : Demand) : (s.setDemand d r).chans = s.chans := rfl
@[simp] theorem State.setDemand_chime0 (s : State) (d : Door) (r : Demand) : (s.setDemand d r).chime0 = s.chime0 := rfl
@[simp] theorem State.setDemand_chime1 (s : State) (d : Door) (r : Demand) : (s.setDemand d r).chime1 = s.chime1 := rfl
@[simp] theorem State.setDemand_guards (s : State) (d : Door) (r : Demand) : (s.setDemand d r).guards = s.guards := rfl
@[simp] theorem State.setDemand_lines (s : State) (d : Door) (r : Demand) : (s.setDemand d r).lines = s.lines := rfl
@[simp] theorem State.setDemand_panelLeft (s : State) (d : Door) (r : Demand) : (s.setDemand d r).panelLeft = s.panelLeft := rfl
@[simp] theorem State.setDemand_panelRight (s : State) (d : Door) (r : Demand) : (s.setDemand d r).panelRight = s.panelRight := rfl
@[simp] theorem State.setDemand_clu (s : State) (d : Door) (r : Demand) : (s.setDemand d r).clu = s.clu := rfl
@[simp] theorem State.setDemand_portT (s : State) (d : Door) (r : Demand) : (s.setDemand d r).portT = s.portT := rfl
@[simp] theorem State.setDemand_portS (s : State) (d : Door) (r : Demand) : (s.setDemand d r).portS = s.portS := rfl
@[simp] theorem State.setDemand_chan_of (s : State) (d : Door) (r : Demand) (e : Door) : (s.setDemand d r).chan e = s.chan e := rfl
@[simp] theorem State.setDemand_guard_of (s : State) (d : Door) (r : Demand) (e : Door) : (s.setDemand d r).guard e = s.guard e := rfl
@[simp] theorem State.setDemand_slot_of (s : State) (d : Door) (r : Demand) (j : SlotNo) : (s.setDemand d r).slot j = s.slot j := rfl
@[simp] theorem State.setDemand_hold_of (s : State) (d : Door) (r : Demand) (j : SlotNo) : (s.setDemand d r).hold j = s.hold j := rfl
@[simp] theorem State.setDemand_cluDoor_of (s : State) (d : Door) (r : Demand) (e : Door) : (s.setDemand d r).cluDoor e = s.cluDoor e := rfl
@[simp] theorem State.setDemand_filter_of (s : State) (d : Door) (r : Demand) (l : Line) : (s.setDemand d r).filter l = s.filter l := rfl
@[simp] theorem State.setDemand_asserted_of (s : State) (d : Door) (r : Demand) (l : Line) : (s.setDemand d r).asserted l = s.asserted l := rfl
@[simp] theorem State.setDemand_fitted_of (s : State) (d : Door) (r : Demand) (e : Door) : (s.setDemand d r).fitted e = s.fitted e := rfl
@[simp] theorem State.setDemand_running_of (s : State) (d : Door) (r : Demand) : (s.setDemand d r).running = s.running := rfl
@[simp] theorem State.setDemand_bothMade_of (s : State) (d : Door) (r : Demand) (e : Door) : (s.setDemand d r).bothMade e = s.bothMade e := rfl
@[simp] theorem State.setDemand_chanInRun_of (s : State) (d : Door) (r : Demand) (e : Door) : (s.setDemand d r).chanInRun e = s.chanInRun e := rfl
@[simp] theorem State.setDemand_allProven_of (s : State) (d : Door) (r : Demand) : (s.setDemand d r).allProven = s.allProven := rfl

/-! ### setSlot -/

@[simp] theorem State.setSlot_pending (s : State) (i : SlotNo) (x : Slot) : (s.setSlot i x).pending = s.pending := rfl
@[simp] theorem State.setSlot_sent (s : State) (i : SlotNo) (x : Slot) : (s.setSlot i x).sent = s.sent := rfl
@[simp] theorem State.setSlot_free (s : State) (i : SlotNo) (x : Slot) : (s.setSlot i x).free = s.free := rfl
@[simp] theorem State.setSlot_supply (s : State) (i : SlotNo) (x : Slot) : (s.setSlot i x).supply = s.supply := rfl
@[simp] theorem State.setSlot_resetLine (s : State) (i : SlotNo) (x : Slot) : (s.setSlot i x).resetLine = s.resetLine := rfl
@[simp] theorem State.setSlot_mode (s : State) (i : SlotNo) (x : Slot) : (s.setSlot i x).mode = s.mode := rfl
@[simp] theorem State.setSlot_resetCause (s : State) (i : SlotNo) (x : Slot) : (s.setSlot i x).resetCause = s.resetCause := rfl
@[simp] theorem State.setSlot_epochCell (s : State) (i : SlotNo) (x : Slot) : (s.setSlot i x).epochCell = s.epochCell := rfl
@[simp] theorem State.setSlot_epochOld (s : State) (i : SlotNo) (x : Slot) : (s.setSlot i x).epochOld = s.epochOld := rfl
@[simp] theorem State.setSlot_cfg (s : State) (i : SlotNo) (x : Slot) : (s.setSlot i x).cfg = s.cfg := rfl
@[simp] theorem State.setSlot_source (s : State) (i : SlotNo) (x : Slot) : (s.setSlot i x).source = s.source := rfl
@[simp] theorem State.setSlot_stored (s : State) (i : SlotNo) (x : Slot) : (s.setSlot i x).stored = s.stored := rfl
@[simp] theorem State.setSlot_store (s : State) (i : SlotNo) (x : Slot) : (s.setSlot i x).store = s.store := rfl
@[simp] theorem State.setSlot_pwm (s : State) (i : SlotNo) (x : Slot) : (s.setSlot i x).pwm = s.pwm := rfl
@[simp] theorem State.setSlot_epoch (s : State) (i : SlotNo) (x : Slot) : (s.setSlot i x).epoch = s.epoch := rfl
@[simp] theorem State.setSlot_demands (s : State) (i : SlotNo) (x : Slot) : (s.setSlot i x).demands = s.demands := rfl
@[simp] theorem State.setSlot_chans (s : State) (i : SlotNo) (x : Slot) : (s.setSlot i x).chans = s.chans := rfl
@[simp] theorem State.setSlot_chime0 (s : State) (i : SlotNo) (x : Slot) : (s.setSlot i x).chime0 = s.chime0 := rfl
@[simp] theorem State.setSlot_chime1 (s : State) (i : SlotNo) (x : Slot) : (s.setSlot i x).chime1 = s.chime1 := rfl
@[simp] theorem State.setSlot_guards (s : State) (i : SlotNo) (x : Slot) : (s.setSlot i x).guards = s.guards := rfl
@[simp] theorem State.setSlot_lines (s : State) (i : SlotNo) (x : Slot) : (s.setSlot i x).lines = s.lines := rfl
@[simp] theorem State.setSlot_panelLeft (s : State) (i : SlotNo) (x : Slot) : (s.setSlot i x).panelLeft = s.panelLeft := rfl
@[simp] theorem State.setSlot_panelRight (s : State) (i : SlotNo) (x : Slot) : (s.setSlot i x).panelRight = s.panelRight := rfl
@[simp] theorem State.setSlot_clu (s : State) (i : SlotNo) (x : Slot) : (s.setSlot i x).clu = s.clu := rfl
@[simp] theorem State.setSlot_portT (s : State) (i : SlotNo) (x : Slot) : (s.setSlot i x).portT = s.portT := rfl
@[simp] theorem State.setSlot_portS (s : State) (i : SlotNo) (x : Slot) : (s.setSlot i x).portS = s.portS := rfl
@[simp] theorem State.setSlot_chan_of (s : State) (i : SlotNo) (x : Slot) (e : Door) : (s.setSlot i x).chan e = s.chan e := rfl
@[simp] theorem State.setSlot_guard_of (s : State) (i : SlotNo) (x : Slot) (e : Door) : (s.setSlot i x).guard e = s.guard e := rfl
@[simp] theorem State.setSlot_demand_of (s : State) (i : SlotNo) (x : Slot) (e : Door) : (s.setSlot i x).demand e = s.demand e := rfl
@[simp] theorem State.setSlot_cluDoor_of (s : State) (i : SlotNo) (x : Slot) (e : Door) : (s.setSlot i x).cluDoor e = s.cluDoor e := rfl
@[simp] theorem State.setSlot_filter_of (s : State) (i : SlotNo) (x : Slot) (l : Line) : (s.setSlot i x).filter l = s.filter l := rfl
@[simp] theorem State.setSlot_asserted_of (s : State) (i : SlotNo) (x : Slot) (l : Line) : (s.setSlot i x).asserted l = s.asserted l := rfl
@[simp] theorem State.setSlot_fitted_of (s : State) (i : SlotNo) (x : Slot) (e : Door) : (s.setSlot i x).fitted e = s.fitted e := rfl
@[simp] theorem State.setSlot_running_of (s : State) (i : SlotNo) (x : Slot) : (s.setSlot i x).running = s.running := rfl
@[simp] theorem State.setSlot_bothMade_of (s : State) (i : SlotNo) (x : Slot) (e : Door) : (s.setSlot i x).bothMade e = s.bothMade e := rfl
@[simp] theorem State.setSlot_chanInRun_of (s : State) (i : SlotNo) (x : Slot) (e : Door) : (s.setSlot i x).chanInRun e = s.chanInRun e := rfl
@[simp] theorem State.setSlot_allProven_of (s : State) (i : SlotNo) (x : Slot) : (s.setSlot i x).allProven = s.allProven := rfl

/-! ### setHold -/

@[simp] theorem State.setHold_pending (s : State) (i : SlotNo) (h : Hold) : (s.setHold i h).pending = s.pending := rfl
@[simp] theorem State.setHold_sent (s : State) (i : SlotNo) (h : Hold) : (s.setHold i h).sent = s.sent := rfl
@[simp] theorem State.setHold_free (s : State) (i : SlotNo) (h : Hold) : (s.setHold i h).free = s.free := rfl
@[simp] theorem State.setHold_supply (s : State) (i : SlotNo) (h : Hold) : (s.setHold i h).supply = s.supply := rfl
@[simp] theorem State.setHold_resetLine (s : State) (i : SlotNo) (h : Hold) : (s.setHold i h).resetLine = s.resetLine := rfl
@[simp] theorem State.setHold_mode (s : State) (i : SlotNo) (h : Hold) : (s.setHold i h).mode = s.mode := rfl
@[simp] theorem State.setHold_resetCause (s : State) (i : SlotNo) (h : Hold) : (s.setHold i h).resetCause = s.resetCause := rfl
@[simp] theorem State.setHold_epochCell (s : State) (i : SlotNo) (h : Hold) : (s.setHold i h).epochCell = s.epochCell := rfl
@[simp] theorem State.setHold_epochOld (s : State) (i : SlotNo) (h : Hold) : (s.setHold i h).epochOld = s.epochOld := rfl
@[simp] theorem State.setHold_cfg (s : State) (i : SlotNo) (h : Hold) : (s.setHold i h).cfg = s.cfg := rfl
@[simp] theorem State.setHold_source (s : State) (i : SlotNo) (h : Hold) : (s.setHold i h).source = s.source := rfl
@[simp] theorem State.setHold_stored (s : State) (i : SlotNo) (h : Hold) : (s.setHold i h).stored = s.stored := rfl
@[simp] theorem State.setHold_store (s : State) (i : SlotNo) (h : Hold) : (s.setHold i h).store = s.store := rfl
@[simp] theorem State.setHold_pwm (s : State) (i : SlotNo) (h : Hold) : (s.setHold i h).pwm = s.pwm := rfl
@[simp] theorem State.setHold_epoch (s : State) (i : SlotNo) (h : Hold) : (s.setHold i h).epoch = s.epoch := rfl
@[simp] theorem State.setHold_demands (s : State) (i : SlotNo) (h : Hold) : (s.setHold i h).demands = s.demands := rfl
@[simp] theorem State.setHold_chans (s : State) (i : SlotNo) (h : Hold) : (s.setHold i h).chans = s.chans := rfl
@[simp] theorem State.setHold_chime0 (s : State) (i : SlotNo) (h : Hold) : (s.setHold i h).chime0 = s.chime0 := rfl
@[simp] theorem State.setHold_chime1 (s : State) (i : SlotNo) (h : Hold) : (s.setHold i h).chime1 = s.chime1 := rfl
@[simp] theorem State.setHold_guards (s : State) (i : SlotNo) (h : Hold) : (s.setHold i h).guards = s.guards := rfl
@[simp] theorem State.setHold_lines (s : State) (i : SlotNo) (h : Hold) : (s.setHold i h).lines = s.lines := rfl
@[simp] theorem State.setHold_panelLeft (s : State) (i : SlotNo) (h : Hold) : (s.setHold i h).panelLeft = s.panelLeft := rfl
@[simp] theorem State.setHold_panelRight (s : State) (i : SlotNo) (h : Hold) : (s.setHold i h).panelRight = s.panelRight := rfl
@[simp] theorem State.setHold_clu (s : State) (i : SlotNo) (h : Hold) : (s.setHold i h).clu = s.clu := rfl
@[simp] theorem State.setHold_portT (s : State) (i : SlotNo) (h : Hold) : (s.setHold i h).portT = s.portT := rfl
@[simp] theorem State.setHold_portS (s : State) (i : SlotNo) (h : Hold) : (s.setHold i h).portS = s.portS := rfl
@[simp] theorem State.setHold_chan_of (s : State) (i : SlotNo) (h : Hold) (e : Door) : (s.setHold i h).chan e = s.chan e := rfl
@[simp] theorem State.setHold_guard_of (s : State) (i : SlotNo) (h : Hold) (e : Door) : (s.setHold i h).guard e = s.guard e := rfl
@[simp] theorem State.setHold_demand_of (s : State) (i : SlotNo) (h : Hold) (e : Door) : (s.setHold i h).demand e = s.demand e := rfl
@[simp] theorem State.setHold_cluDoor_of (s : State) (i : SlotNo) (h : Hold) (e : Door) : (s.setHold i h).cluDoor e = s.cluDoor e := rfl
@[simp] theorem State.setHold_filter_of (s : State) (i : SlotNo) (h : Hold) (l : Line) : (s.setHold i h).filter l = s.filter l := rfl
@[simp] theorem State.setHold_asserted_of (s : State) (i : SlotNo) (h : Hold) (l : Line) : (s.setHold i h).asserted l = s.asserted l := rfl
@[simp] theorem State.setHold_fitted_of (s : State) (i : SlotNo) (h : Hold) (e : Door) : (s.setHold i h).fitted e = s.fitted e := rfl
@[simp] theorem State.setHold_running_of (s : State) (i : SlotNo) (h : Hold) : (s.setHold i h).running = s.running := rfl
@[simp] theorem State.setHold_bothMade_of (s : State) (i : SlotNo) (h : Hold) (e : Door) : (s.setHold i h).bothMade e = s.bothMade e := rfl
@[simp] theorem State.setHold_chanInRun_of (s : State) (i : SlotNo) (h : Hold) (e : Door) : (s.setHold i h).chanInRun e = s.chanInRun e := rfl
@[simp] theorem State.setHold_allProven_of (s : State) (i : SlotNo) (h : Hold) : (s.setHold i h).allProven = s.allProven := rfl

/-! ### setCluDoor -/

@[simp] theorem State.setCluDoor_pending (s : State) (d : Door) (x : CluDoor) : (s.setCluDoor d x).pending = s.pending := rfl
@[simp] theorem State.setCluDoor_sent (s : State) (d : Door) (x : CluDoor) : (s.setCluDoor d x).sent = s.sent := rfl
@[simp] theorem State.setCluDoor_free (s : State) (d : Door) (x : CluDoor) : (s.setCluDoor d x).free = s.free := rfl
@[simp] theorem State.setCluDoor_supply (s : State) (d : Door) (x : CluDoor) : (s.setCluDoor d x).supply = s.supply := rfl
@[simp] theorem State.setCluDoor_resetLine (s : State) (d : Door) (x : CluDoor) : (s.setCluDoor d x).resetLine = s.resetLine := rfl
@[simp] theorem State.setCluDoor_mode (s : State) (d : Door) (x : CluDoor) : (s.setCluDoor d x).mode = s.mode := rfl
@[simp] theorem State.setCluDoor_resetCause (s : State) (d : Door) (x : CluDoor) : (s.setCluDoor d x).resetCause = s.resetCause := rfl
@[simp] theorem State.setCluDoor_epochCell (s : State) (d : Door) (x : CluDoor) : (s.setCluDoor d x).epochCell = s.epochCell := rfl
@[simp] theorem State.setCluDoor_epochOld (s : State) (d : Door) (x : CluDoor) : (s.setCluDoor d x).epochOld = s.epochOld := rfl
@[simp] theorem State.setCluDoor_cfg (s : State) (d : Door) (x : CluDoor) : (s.setCluDoor d x).cfg = s.cfg := rfl
@[simp] theorem State.setCluDoor_source (s : State) (d : Door) (x : CluDoor) : (s.setCluDoor d x).source = s.source := rfl
@[simp] theorem State.setCluDoor_stored (s : State) (d : Door) (x : CluDoor) : (s.setCluDoor d x).stored = s.stored := rfl
@[simp] theorem State.setCluDoor_store (s : State) (d : Door) (x : CluDoor) : (s.setCluDoor d x).store = s.store := rfl
@[simp] theorem State.setCluDoor_pwm (s : State) (d : Door) (x : CluDoor) : (s.setCluDoor d x).pwm = s.pwm := rfl
@[simp] theorem State.setCluDoor_epoch (s : State) (d : Door) (x : CluDoor) : (s.setCluDoor d x).epoch = s.epoch := rfl
@[simp] theorem State.setCluDoor_slots (s : State) (d : Door) (x : CluDoor) : (s.setCluDoor d x).slots = s.slots := rfl
@[simp] theorem State.setCluDoor_demands (s : State) (d : Door) (x : CluDoor) : (s.setCluDoor d x).demands = s.demands := rfl
@[simp] theorem State.setCluDoor_chans (s : State) (d : Door) (x : CluDoor) : (s.setCluDoor d x).chans = s.chans := rfl
@[simp] theorem State.setCluDoor_chime0 (s : State) (d : Door) (x : CluDoor) : (s.setCluDoor d x).chime0 = s.chime0 := rfl
@[simp] theorem State.setCluDoor_chime1 (s : State) (d : Door) (x : CluDoor) : (s.setCluDoor d x).chime1 = s.chime1 := rfl
@[simp] theorem State.setCluDoor_guards (s : State) (d : Door) (x : CluDoor) : (s.setCluDoor d x).guards = s.guards := rfl
@[simp] theorem State.setCluDoor_lines (s : State) (d : Door) (x : CluDoor) : (s.setCluDoor d x).lines = s.lines := rfl
@[simp] theorem State.setCluDoor_panelLeft (s : State) (d : Door) (x : CluDoor) : (s.setCluDoor d x).panelLeft = s.panelLeft := rfl
@[simp] theorem State.setCluDoor_panelRight (s : State) (d : Door) (x : CluDoor) : (s.setCluDoor d x).panelRight = s.panelRight := rfl
@[simp] theorem State.setCluDoor_portT (s : State) (d : Door) (x : CluDoor) : (s.setCluDoor d x).portT = s.portT := rfl
@[simp] theorem State.setCluDoor_portS (s : State) (d : Door) (x : CluDoor) : (s.setCluDoor d x).portS = s.portS := rfl
@[simp] theorem State.setCluDoor_chan_of (s : State) (d : Door) (x : CluDoor) (e : Door) : (s.setCluDoor d x).chan e = s.chan e := rfl
@[simp] theorem State.setCluDoor_guard_of (s : State) (d : Door) (x : CluDoor) (e : Door) : (s.setCluDoor d x).guard e = s.guard e := rfl
@[simp] theorem State.setCluDoor_demand_of (s : State) (d : Door) (x : CluDoor) (e : Door) : (s.setCluDoor d x).demand e = s.demand e := rfl
@[simp] theorem State.setCluDoor_slot_of (s : State) (d : Door) (x : CluDoor) (j : SlotNo) : (s.setCluDoor d x).slot j = s.slot j := rfl
@[simp] theorem State.setCluDoor_hold_of (s : State) (d : Door) (x : CluDoor) (j : SlotNo) : (s.setCluDoor d x).hold j = s.hold j := rfl
@[simp] theorem State.setCluDoor_filter_of (s : State) (d : Door) (x : CluDoor) (l : Line) : (s.setCluDoor d x).filter l = s.filter l := rfl
@[simp] theorem State.setCluDoor_asserted_of (s : State) (d : Door) (x : CluDoor) (l : Line) : (s.setCluDoor d x).asserted l = s.asserted l := rfl
@[simp] theorem State.setCluDoor_fitted_of (s : State) (d : Door) (x : CluDoor) (e : Door) : (s.setCluDoor d x).fitted e = s.fitted e := rfl
@[simp] theorem State.setCluDoor_running_of (s : State) (d : Door) (x : CluDoor) : (s.setCluDoor d x).running = s.running := rfl
@[simp] theorem State.setCluDoor_bothMade_of (s : State) (d : Door) (x : CluDoor) (e : Door) : (s.setCluDoor d x).bothMade e = s.bothMade e := rfl
@[simp] theorem State.setCluDoor_chanInRun_of (s : State) (d : Door) (x : CluDoor) (e : Door) : (s.setCluDoor d x).chanInRun e = s.chanInRun e := rfl

/-! ### setFilter -/

@[simp] theorem State.setFilter_pending (s : State) (m : Line) (f : Filter) : (s.setFilter m f).pending = s.pending := rfl
@[simp] theorem State.setFilter_sent (s : State) (m : Line) (f : Filter) : (s.setFilter m f).sent = s.sent := rfl
@[simp] theorem State.setFilter_free (s : State) (m : Line) (f : Filter) : (s.setFilter m f).free = s.free := rfl
@[simp] theorem State.setFilter_supply (s : State) (m : Line) (f : Filter) : (s.setFilter m f).supply = s.supply := rfl
@[simp] theorem State.setFilter_resetLine (s : State) (m : Line) (f : Filter) : (s.setFilter m f).resetLine = s.resetLine := rfl
@[simp] theorem State.setFilter_mode (s : State) (m : Line) (f : Filter) : (s.setFilter m f).mode = s.mode := rfl
@[simp] theorem State.setFilter_resetCause (s : State) (m : Line) (f : Filter) : (s.setFilter m f).resetCause = s.resetCause := rfl
@[simp] theorem State.setFilter_epochCell (s : State) (m : Line) (f : Filter) : (s.setFilter m f).epochCell = s.epochCell := rfl
@[simp] theorem State.setFilter_epochOld (s : State) (m : Line) (f : Filter) : (s.setFilter m f).epochOld = s.epochOld := rfl
@[simp] theorem State.setFilter_cfg (s : State) (m : Line) (f : Filter) : (s.setFilter m f).cfg = s.cfg := rfl
@[simp] theorem State.setFilter_source (s : State) (m : Line) (f : Filter) : (s.setFilter m f).source = s.source := rfl
@[simp] theorem State.setFilter_stored (s : State) (m : Line) (f : Filter) : (s.setFilter m f).stored = s.stored := rfl
@[simp] theorem State.setFilter_store (s : State) (m : Line) (f : Filter) : (s.setFilter m f).store = s.store := rfl
@[simp] theorem State.setFilter_pwm (s : State) (m : Line) (f : Filter) : (s.setFilter m f).pwm = s.pwm := rfl
@[simp] theorem State.setFilter_epoch (s : State) (m : Line) (f : Filter) : (s.setFilter m f).epoch = s.epoch := rfl
@[simp] theorem State.setFilter_slots (s : State) (m : Line) (f : Filter) : (s.setFilter m f).slots = s.slots := rfl
@[simp] theorem State.setFilter_demands (s : State) (m : Line) (f : Filter) : (s.setFilter m f).demands = s.demands := rfl
@[simp] theorem State.setFilter_chans (s : State) (m : Line) (f : Filter) : (s.setFilter m f).chans = s.chans := rfl
@[simp] theorem State.setFilter_chime0 (s : State) (m : Line) (f : Filter) : (s.setFilter m f).chime0 = s.chime0 := rfl
@[simp] theorem State.setFilter_chime1 (s : State) (m : Line) (f : Filter) : (s.setFilter m f).chime1 = s.chime1 := rfl
@[simp] theorem State.setFilter_guards (s : State) (m : Line) (f : Filter) : (s.setFilter m f).guards = s.guards := rfl
@[simp] theorem State.setFilter_panelLeft (s : State) (m : Line) (f : Filter) : (s.setFilter m f).panelLeft = s.panelLeft := rfl
@[simp] theorem State.setFilter_panelRight (s : State) (m : Line) (f : Filter) : (s.setFilter m f).panelRight = s.panelRight := rfl
@[simp] theorem State.setFilter_clu (s : State) (m : Line) (f : Filter) : (s.setFilter m f).clu = s.clu := rfl
@[simp] theorem State.setFilter_portT (s : State) (m : Line) (f : Filter) : (s.setFilter m f).portT = s.portT := rfl
@[simp] theorem State.setFilter_portS (s : State) (m : Line) (f : Filter) : (s.setFilter m f).portS = s.portS := rfl
@[simp] theorem State.setFilter_chan_of (s : State) (m : Line) (f : Filter) (e : Door) : (s.setFilter m f).chan e = s.chan e := rfl
@[simp] theorem State.setFilter_guard_of (s : State) (m : Line) (f : Filter) (e : Door) : (s.setFilter m f).guard e = s.guard e := rfl
@[simp] theorem State.setFilter_demand_of (s : State) (m : Line) (f : Filter) (e : Door) : (s.setFilter m f).demand e = s.demand e := rfl
@[simp] theorem State.setFilter_slot_of (s : State) (m : Line) (f : Filter) (j : SlotNo) : (s.setFilter m f).slot j = s.slot j := rfl
@[simp] theorem State.setFilter_hold_of (s : State) (m : Line) (f : Filter) (j : SlotNo) : (s.setFilter m f).hold j = s.hold j := rfl
@[simp] theorem State.setFilter_cluDoor_of (s : State) (m : Line) (f : Filter) (e : Door) : (s.setFilter m f).cluDoor e = s.cluDoor e := rfl
@[simp] theorem State.setFilter_fitted_of (s : State) (m : Line) (f : Filter) (e : Door) : (s.setFilter m f).fitted e = s.fitted e := rfl
@[simp] theorem State.setFilter_running_of (s : State) (m : Line) (f : Filter) : (s.setFilter m f).running = s.running := rfl
@[simp] theorem State.setFilter_chanInRun_of (s : State) (m : Line) (f : Filter) (e : Door) : (s.setFilter m f).chanInRun e = s.chanInRun e := rfl
@[simp] theorem State.setFilter_allProven_of (s : State) (m : Line) (f : Filter) : (s.setFilter m f).allProven = s.allProven := rfl

/-! ### send -/

@[simp] theorem State.send_pending (s : State) (c : Instr) : (s.send c).pending = s.pending := rfl
@[simp] theorem State.send_free (s : State) (c : Instr) : (s.send c).free = s.free := rfl
@[simp] theorem State.send_supply (s : State) (c : Instr) : (s.send c).supply = s.supply := rfl
@[simp] theorem State.send_resetLine (s : State) (c : Instr) : (s.send c).resetLine = s.resetLine := rfl
@[simp] theorem State.send_mode (s : State) (c : Instr) : (s.send c).mode = s.mode := rfl
@[simp] theorem State.send_resetCause (s : State) (c : Instr) : (s.send c).resetCause = s.resetCause := rfl
@[simp] theorem State.send_epochCell (s : State) (c : Instr) : (s.send c).epochCell = s.epochCell := rfl
@[simp] theorem State.send_epochOld (s : State) (c : Instr) : (s.send c).epochOld = s.epochOld := rfl
@[simp] theorem State.send_cfg (s : State) (c : Instr) : (s.send c).cfg = s.cfg := rfl
@[simp] theorem State.send_source (s : State) (c : Instr) : (s.send c).source = s.source := rfl
@[simp] theorem State.send_stored (s : State) (c : Instr) : (s.send c).stored = s.stored := rfl
@[simp] theorem State.send_store (s : State) (c : Instr) : (s.send c).store = s.store := rfl
@[simp] theorem State.send_pwm (s : State) (c : Instr) : (s.send c).pwm = s.pwm := rfl
@[simp] theorem State.send_epoch (s : State) (c : Instr) : (s.send c).epoch = s.epoch := rfl
@[simp] theorem State.send_slots (s : State) (c : Instr) : (s.send c).slots = s.slots := rfl
@[simp] theorem State.send_demands (s : State) (c : Instr) : (s.send c).demands = s.demands := rfl
@[simp] theorem State.send_chans (s : State) (c : Instr) : (s.send c).chans = s.chans := rfl
@[simp] theorem State.send_chime0 (s : State) (c : Instr) : (s.send c).chime0 = s.chime0 := rfl
@[simp] theorem State.send_chime1 (s : State) (c : Instr) : (s.send c).chime1 = s.chime1 := rfl
@[simp] theorem State.send_guards (s : State) (c : Instr) : (s.send c).guards = s.guards := rfl
@[simp] theorem State.send_lines (s : State) (c : Instr) : (s.send c).lines = s.lines := rfl
@[simp] theorem State.send_panelLeft (s : State) (c : Instr) : (s.send c).panelLeft = s.panelLeft := rfl
@[simp] theorem State.send_panelRight (s : State) (c : Instr) : (s.send c).panelRight = s.panelRight := rfl
@[simp] theorem State.send_clu (s : State) (c : Instr) : (s.send c).clu = s.clu := rfl
@[simp] theorem State.send_portT (s : State) (c : Instr) : (s.send c).portT = s.portT := rfl
@[simp] theorem State.send_portS (s : State) (c : Instr) : (s.send c).portS = s.portS := rfl
@[simp] theorem State.send_chan_of (s : State) (c : Instr) (e : Door) : (s.send c).chan e = s.chan e := rfl
@[simp] theorem State.send_guard_of (s : State) (c : Instr) (e : Door) : (s.send c).guard e = s.guard e := rfl
@[simp] theorem State.send_demand_of (s : State) (c : Instr) (e : Door) : (s.send c).demand e = s.demand e := rfl
@[simp] theorem State.send_slot_of (s : State) (c : Instr) (j : SlotNo) : (s.send c).slot j = s.slot j := rfl
@[simp] theorem State.send_hold_of (s : State) (c : Instr) (j : SlotNo) : (s.send c).hold j = s.hold j := rfl
@[simp] theorem State.send_cluDoor_of (s : State) (c : Instr) (e : Door) : (s.send c).cluDoor e = s.cluDoor e := rfl
@[simp] theorem State.send_filter_of (s : State) (c : Instr) (l : Line) : (s.send c).filter l = s.filter l := rfl
@[simp] theorem State.send_asserted_of (s : State) (c : Instr) (l : Line) : (s.send c).asserted l = s.asserted l := rfl
@[simp] theorem State.send_fitted_of (s : State) (c : Instr) (e : Door) : (s.send c).fitted e = s.fitted e := rfl
@[simp] theorem State.send_running_of (s : State) (c : Instr) : (s.send c).running = s.running := rfl
@[simp] theorem State.send_bothMade_of (s : State) (c : Instr) (e : Door) : (s.send c).bothMade e = s.bothMade e := rfl
@[simp] theorem State.send_allProven_of (s : State) (c : Instr) : (s.send c).allProven = s.allProven := rfl

/-! ### dropGrd -/

@[simp] theorem State.dropGrd_pending (s : State) (d : Door) : (s.dropGrd d).pending = s.pending := rfl
@[simp] theorem State.dropGrd_free (s : State) (d : Door) : (s.dropGrd d).free = s.free := rfl
@[simp] theorem State.dropGrd_supply (s : State) (d : Door) : (s.dropGrd d).supply = s.supply := rfl
@[simp] theorem State.dropGrd_resetLine (s : State) (d : Door) : (s.dropGrd d).resetLine = s.resetLine := rfl
@[simp] theorem State.dropGrd_mode (s : State) (d : Door) : (s.dropGrd d).mode = s.mode := rfl
@[simp] theorem State.dropGrd_resetCause (s : State) (d : Door) : (s.dropGrd d).resetCause = s.resetCause := rfl
@[simp] theorem State.dropGrd_epochCell (s : State) (d : Door) : (s.dropGrd d).epochCell = s.epochCell := rfl
@[simp] theorem State.dropGrd_epochOld (s : State) (d : Door) : (s.dropGrd d).epochOld = s.epochOld := rfl
@[simp] theorem State.dropGrd_cfg (s : State) (d : Door) : (s.dropGrd d).cfg = s.cfg := rfl
@[simp] theorem State.dropGrd_source (s : State) (d : Door) : (s.dropGrd d).source = s.source := rfl
@[simp] theorem State.dropGrd_stored (s : State) (d : Door) : (s.dropGrd d).stored = s.stored := rfl
@[simp] theorem State.dropGrd_store (s : State) (d : Door) : (s.dropGrd d).store = s.store := rfl
@[simp] theorem State.dropGrd_pwm (s : State) (d : Door) : (s.dropGrd d).pwm = s.pwm := rfl
@[simp] theorem State.dropGrd_epoch (s : State) (d : Door) : (s.dropGrd d).epoch = s.epoch := rfl
@[simp] theorem State.dropGrd_slots (s : State) (d : Door) : (s.dropGrd d).slots = s.slots := rfl
@[simp] theorem State.dropGrd_demands (s : State) (d : Door) : (s.dropGrd d).demands = s.demands := rfl
@[simp] theorem State.dropGrd_chans (s : State) (d : Door) : (s.dropGrd d).chans = s.chans := rfl
@[simp] theorem State.dropGrd_chime0 (s : State) (d : Door) : (s.dropGrd d).chime0 = s.chime0 := rfl
@[simp] theorem State.dropGrd_chime1 (s : State) (d : Door) : (s.dropGrd d).chime1 = s.chime1 := rfl
@[simp] theorem State.dropGrd_guards (s : State) (d : Door) : (s.dropGrd d).guards = s.guards := rfl
@[simp] theorem State.dropGrd_lines (s : State) (d : Door) : (s.dropGrd d).lines = s.lines := rfl
@[simp] theorem State.dropGrd_panelLeft (s : State) (d : Door) : (s.dropGrd d).panelLeft = s.panelLeft := rfl
@[simp] theorem State.dropGrd_panelRight (s : State) (d : Door) : (s.dropGrd d).panelRight = s.panelRight := rfl
@[simp] theorem State.dropGrd_clu (s : State) (d : Door) : (s.dropGrd d).clu = s.clu := rfl
@[simp] theorem State.dropGrd_portT (s : State) (d : Door) : (s.dropGrd d).portT = s.portT := rfl
@[simp] theorem State.dropGrd_portS (s : State) (d : Door) : (s.dropGrd d).portS = s.portS := rfl
@[simp] theorem State.dropGrd_chan_of (s : State) (d : Door) (e : Door) : (s.dropGrd d).chan e = s.chan e := rfl
@[simp] theorem State.dropGrd_guard_of (s : State) (d : Door) (e : Door) : (s.dropGrd d).guard e = s.guard e := rfl
@[simp] theorem State.dropGrd_demand_of (s : State) (d : Door) (e : Door) : (s.dropGrd d).demand e = s.demand e := rfl
@[simp] theorem State.dropGrd_slot_of (s : State) (d : Door) (j : SlotNo) : (s.dropGrd d).slot j = s.slot j := rfl
@[simp] theorem State.dropGrd_hold_of (s : State) (d : Door) (j : SlotNo) : (s.dropGrd d).hold j = s.hold j := rfl
@[simp] theorem State.dropGrd_cluDoor_of (s : State) (d : Door) (e : Door) : (s.dropGrd d).cluDoor e = s.cluDoor e := rfl
@[simp] theorem State.dropGrd_filter_of (s : State) (d : Door) (l : Line) : (s.dropGrd d).filter l = s.filter l := rfl
@[simp] theorem State.dropGrd_asserted_of (s : State) (d : Door) (l : Line) : (s.dropGrd d).asserted l = s.asserted l := rfl
@[simp] theorem State.dropGrd_fitted_of (s : State) (d : Door) (e : Door) : (s.dropGrd d).fitted e = s.fitted e := rfl
@[simp] theorem State.dropGrd_running_of (s : State) (d : Door) : (s.dropGrd d).running = s.running := rfl
@[simp] theorem State.dropGrd_bothMade_of (s : State) (d : Door) (e : Door) : (s.dropGrd d).bothMade e = s.bothMade e := rfl
@[simp] theorem State.dropGrd_allProven_of (s : State) (d : Door) : (s.dropGrd d).allProven = s.allProven := rfl

/-! ### setPort -/

@[simp] theorem State.setPort_pending (s : State) (p : Port) (x : PortState) : (s.setPort p x).pending = s.pending := by cases p <;> rfl
@[simp] theorem State.setPort_sent (s : State) (p : Port) (x : PortState) : (s.setPort p x).sent = s.sent := by cases p <;> rfl
@[simp] theorem State.setPort_free (s : State) (p : Port) (x : PortState) : (s.setPort p x).free = s.free := by cases p <;> rfl
@[simp] theorem State.setPort_supply (s : State) (p : Port) (x : PortState) : (s.setPort p x).supply = s.supply := by cases p <;> rfl
@[simp] theorem State.setPort_resetLine (s : State) (p : Port) (x : PortState) : (s.setPort p x).resetLine = s.resetLine := by cases p <;> rfl
@[simp] theorem State.setPort_mode (s : State) (p : Port) (x : PortState) : (s.setPort p x).mode = s.mode := by cases p <;> rfl
@[simp] theorem State.setPort_resetCause (s : State) (p : Port) (x : PortState) : (s.setPort p x).resetCause = s.resetCause := by cases p <;> rfl
@[simp] theorem State.setPort_epochCell (s : State) (p : Port) (x : PortState) : (s.setPort p x).epochCell = s.epochCell := by cases p <;> rfl
@[simp] theorem State.setPort_epochOld (s : State) (p : Port) (x : PortState) : (s.setPort p x).epochOld = s.epochOld := by cases p <;> rfl
@[simp] theorem State.setPort_cfg (s : State) (p : Port) (x : PortState) : (s.setPort p x).cfg = s.cfg := by cases p <;> rfl
@[simp] theorem State.setPort_source (s : State) (p : Port) (x : PortState) : (s.setPort p x).source = s.source := by cases p <;> rfl
@[simp] theorem State.setPort_stored (s : State) (p : Port) (x : PortState) : (s.setPort p x).stored = s.stored := by cases p <;> rfl
@[simp] theorem State.setPort_store (s : State) (p : Port) (x : PortState) : (s.setPort p x).store = s.store := by cases p <;> rfl
@[simp] theorem State.setPort_pwm (s : State) (p : Port) (x : PortState) : (s.setPort p x).pwm = s.pwm := by cases p <;> rfl
@[simp] theorem State.setPort_epoch (s : State) (p : Port) (x : PortState) : (s.setPort p x).epoch = s.epoch := by cases p <;> rfl
@[simp] theorem State.setPort_slots (s : State) (p : Port) (x : PortState) : (s.setPort p x).slots = s.slots := by cases p <;> rfl
@[simp] theorem State.setPort_demands (s : State) (p : Port) (x : PortState) : (s.setPort p x).demands = s.demands := by cases p <;> rfl
@[simp] theorem State.setPort_chans (s : State) (p : Port) (x : PortState) : (s.setPort p x).chans = s.chans := by cases p <;> rfl
@[simp] theorem State.setPort_chime0 (s : State) (p : Port) (x : PortState) : (s.setPort p x).chime0 = s.chime0 := by cases p <;> rfl
@[simp] theorem State.setPort_chime1 (s : State) (p : Port) (x : PortState) : (s.setPort p x).chime1 = s.chime1 := by cases p <;> rfl
@[simp] theorem State.setPort_guards (s : State) (p : Port) (x : PortState) : (s.setPort p x).guards = s.guards := by cases p <;> rfl
@[simp] theorem State.setPort_lines (s : State) (p : Port) (x : PortState) : (s.setPort p x).lines = s.lines := by cases p <;> rfl
@[simp] theorem State.setPort_panelLeft (s : State) (p : Port) (x : PortState) : (s.setPort p x).panelLeft = s.panelLeft := by cases p <;> rfl
@[simp] theorem State.setPort_panelRight (s : State) (p : Port) (x : PortState) : (s.setPort p x).panelRight = s.panelRight := by cases p <;> rfl
@[simp] theorem State.setPort_clu (s : State) (p : Port) (x : PortState) : (s.setPort p x).clu = s.clu := by cases p <;> rfl
@[simp] theorem State.setPort_chan_of (s : State) (p : Port) (x : PortState) (e : Door) : (s.setPort p x).chan e = s.chan e := by cases p <;> rfl
@[simp] theorem State.setPort_guard_of (s : State) (p : Port) (x : PortState) (e : Door) : (s.setPort p x).guard e = s.guard e := by cases p <;> rfl
@[simp] theorem State.setPort_demand_of (s : State) (p : Port) (x : PortState) (e : Door) : (s.setPort p x).demand e = s.demand e := by cases p <;> rfl
@[simp] theorem State.setPort_slot_of (s : State) (p : Port) (x : PortState) (j : SlotNo) : (s.setPort p x).slot j = s.slot j := by cases p <;> rfl
@[simp] theorem State.setPort_hold_of (s : State) (p : Port) (x : PortState) (j : SlotNo) : (s.setPort p x).hold j = s.hold j := by cases p <;> rfl
@[simp] theorem State.setPort_cluDoor_of (s : State) (p : Port) (x : PortState) (e : Door) : (s.setPort p x).cluDoor e = s.cluDoor e := by cases p <;> rfl
@[simp] theorem State.setPort_filter_of (s : State) (p : Port) (x : PortState) (l : Line) : (s.setPort p x).filter l = s.filter l := by cases p <;> rfl
@[simp] theorem State.setPort_asserted_of (s : State) (p : Port) (x : PortState) (l : Line) : (s.setPort p x).asserted l = s.asserted l := by cases p <;> rfl
@[simp] theorem State.setPort_fitted_of (s : State) (p : Port) (x : PortState) (e : Door) : (s.setPort p x).fitted e = s.fitted e := by cases p <;> rfl
@[simp] theorem State.setPort_running_of (s : State) (p : Port) (x : PortState) : (s.setPort p x).running = s.running := by cases p <;> rfl
@[simp] theorem State.setPort_bothMade_of (s : State) (p : Port) (x : PortState) (e : Door) : (s.setPort p x).bothMade e = s.bothMade e := by cases p <;> rfl
@[simp] theorem State.setPort_chanInRun_of (s : State) (p : Port) (x : PortState) (e : Door) : (s.setPort p x).chanInRun e = s.chanInRun e := by cases p <;> rfl
@[simp] theorem State.setPort_allProven_of (s : State) (p : Port) (x : PortState) : (s.setPort p x).allProven = s.allProven := by cases p <;> rfl

/-! ### modPort -/

@[simp] theorem State.modPort_pending (s : State) (p : Port) (f : PortState → PortState) : (s.modPort p f).pending = s.pending := by cases p <;> rfl
@[simp] theorem State.modPort_sent (s : State) (p : Port) (f : PortState → PortState) : (s.modPort p f).sent = s.sent := by cases p <;> rfl
@[simp] theorem State.modPort_free (s : State) (p : Port) (f : PortState → PortState) : (s.modPort p f).free = s.free := by cases p <;> rfl
@[simp] theorem State.modPort_supply (s : State) (p : Port) (f : PortState → PortState) : (s.modPort p f).supply = s.supply := by cases p <;> rfl
@[simp] theorem State.modPort_resetLine (s : State) (p : Port) (f : PortState → PortState) : (s.modPort p f).resetLine = s.resetLine := by cases p <;> rfl
@[simp] theorem State.modPort_mode (s : State) (p : Port) (f : PortState → PortState) : (s.modPort p f).mode = s.mode := by cases p <;> rfl
@[simp] theorem State.modPort_resetCause (s : State) (p : Port) (f : PortState → PortState) : (s.modPort p f).resetCause = s.resetCause := by cases p <;> rfl
@[simp] theorem State.modPort_epochCell (s : State) (p : Port) (f : PortState → PortState) : (s.modPort p f).epochCell = s.epochCell := by cases p <;> rfl
@[simp] theorem State.modPort_epochOld (s : State) (p : Port) (f : PortState → PortState) : (s.modPort p f).epochOld = s.epochOld := by cases p <;> rfl
@[simp] theorem State.modPort_cfg (s : State) (p : Port) (f : PortState → PortState) : (s.modPort p f).cfg = s.cfg := by cases p <;> rfl
@[simp] theorem State.modPort_source (s : State) (p : Port) (f : PortState → PortState) : (s.modPort p f).source = s.source := by cases p <;> rfl
@[simp] theorem State.modPort_stored (s : State) (p : Port) (f : PortState → PortState) : (s.modPort p f).stored = s.stored := by cases p <;> rfl
@[simp] theorem State.modPort_store (s : State) (p : Port) (f : PortState → PortState) : (s.modPort p f).store = s.store := by cases p <;> rfl
@[simp] theorem State.modPort_pwm (s : State) (p : Port) (f : PortState → PortState) : (s.modPort p f).pwm = s.pwm := by cases p <;> rfl
@[simp] theorem State.modPort_epoch (s : State) (p : Port) (f : PortState → PortState) : (s.modPort p f).epoch = s.epoch := by cases p <;> rfl
@[simp] theorem State.modPort_slots (s : State) (p : Port) (f : PortState → PortState) : (s.modPort p f).slots = s.slots := by cases p <;> rfl
@[simp] theorem State.modPort_demands (s : State) (p : Port) (f : PortState → PortState) : (s.modPort p f).demands = s.demands := by cases p <;> rfl
@[simp] theorem State.modPort_chans (s : State) (p : Port) (f : PortState → PortState) : (s.modPort p f).chans = s.chans := by cases p <;> rfl
@[simp] theorem State.modPort_chime0 (s : State) (p : Port) (f : PortState → PortState) : (s.modPort p f).chime0 = s.chime0 := by cases p <;> rfl
@[simp] theorem State.modPort_chime1 (s : State) (p : Port) (f : PortState → PortState) : (s.modPort p f).chime1 = s.chime1 := by cases p <;> rfl
@[simp] theorem State.modPort_guards (s : State) (p : Port) (f : PortState → PortState) : (s.modPort p f).guards = s.guards := by cases p <;> rfl
@[simp] theorem State.modPort_lines (s : State) (p : Port) (f : PortState → PortState) : (s.modPort p f).lines = s.lines := by cases p <;> rfl
@[simp] theorem State.modPort_panelLeft (s : State) (p : Port) (f : PortState → PortState) : (s.modPort p f).panelLeft = s.panelLeft := by cases p <;> rfl
@[simp] theorem State.modPort_panelRight (s : State) (p : Port) (f : PortState → PortState) : (s.modPort p f).panelRight = s.panelRight := by cases p <;> rfl
@[simp] theorem State.modPort_clu (s : State) (p : Port) (f : PortState → PortState) : (s.modPort p f).clu = s.clu := by cases p <;> rfl
@[simp] theorem State.modPort_chan_of (s : State) (p : Port) (f : PortState → PortState) (e : Door) : (s.modPort p f).chan e = s.chan e := by cases p <;> rfl
@[simp] theorem State.modPort_guard_of (s : State) (p : Port) (f : PortState → PortState) (e : Door) : (s.modPort p f).guard e = s.guard e := by cases p <;> rfl
@[simp] theorem State.modPort_demand_of (s : State) (p : Port) (f : PortState → PortState) (e : Door) : (s.modPort p f).demand e = s.demand e := by cases p <;> rfl
@[simp] theorem State.modPort_slot_of (s : State) (p : Port) (f : PortState → PortState) (j : SlotNo) : (s.modPort p f).slot j = s.slot j := by cases p <;> rfl
@[simp] theorem State.modPort_hold_of (s : State) (p : Port) (f : PortState → PortState) (j : SlotNo) : (s.modPort p f).hold j = s.hold j := by cases p <;> rfl
@[simp] theorem State.modPort_cluDoor_of (s : State) (p : Port) (f : PortState → PortState) (e : Door) : (s.modPort p f).cluDoor e = s.cluDoor e := by cases p <;> rfl
@[simp] theorem State.modPort_filter_of (s : State) (p : Port) (f : PortState → PortState) (l : Line) : (s.modPort p f).filter l = s.filter l := by cases p <;> rfl
@[simp] theorem State.modPort_asserted_of (s : State) (p : Port) (f : PortState → PortState) (l : Line) : (s.modPort p f).asserted l = s.asserted l := by cases p <;> rfl
@[simp] theorem State.modPort_fitted_of (s : State) (p : Port) (f : PortState → PortState) (e : Door) : (s.modPort p f).fitted e = s.fitted e := by cases p <;> rfl
@[simp] theorem State.modPort_running_of (s : State) (p : Port) (f : PortState → PortState) : (s.modPort p f).running = s.running := by cases p <;> rfl
@[simp] theorem State.modPort_bothMade_of (s : State) (p : Port) (f : PortState → PortState) (e : Door) : (s.modPort p f).bothMade e = s.bothMade e := by cases p <;> rfl
@[simp] theorem State.modPort_chanInRun_of (s : State) (p : Port) (f : PortState → PortState) (e : Door) : (s.modPort p f).chanInRun e = s.chanInRun e := by cases p <;> rfl
@[simp] theorem State.modPort_allProven_of (s : State) (p : Port) (f : PortState → PortState) : (s.modPort p f).allProven = s.allProven := by cases p <;> rfl

/-! ### raiseOn -/

@[simp] theorem State.raiseOn_pending (s : State) (p : Port) (k : NoticeKind) : (s.raiseOn p k).pending = s.pending := by cases p <;> rfl
@[simp] theorem State.raiseOn_sent (s : State) (p : Port) (k : NoticeKind) : (s.raiseOn p k).sent = s.sent := by cases p <;> rfl
@[simp] theorem State.raiseOn_free (s : State) (p : Port) (k : NoticeKind) : (s.raiseOn p k).free = s.free := by cases p <;> rfl
@[simp] theorem State.raiseOn_supply (s : State) (p : Port) (k : NoticeKind) : (s.raiseOn p k).supply = s.supply := by cases p <;> rfl
@[simp] theorem State.raiseOn_resetLine (s : State) (p : Port) (k : NoticeKind) : (s.raiseOn p k).resetLine = s.resetLine := by cases p <;> rfl
@[simp] theorem State.raiseOn_mode (s : State) (p : Port) (k : NoticeKind) : (s.raiseOn p k).mode = s.mode := by cases p <;> rfl
@[simp] theorem State.raiseOn_resetCause (s : State) (p : Port) (k : NoticeKind) : (s.raiseOn p k).resetCause = s.resetCause := by cases p <;> rfl
@[simp] theorem State.raiseOn_epochCell (s : State) (p : Port) (k : NoticeKind) : (s.raiseOn p k).epochCell = s.epochCell := by cases p <;> rfl
@[simp] theorem State.raiseOn_epochOld (s : State) (p : Port) (k : NoticeKind) : (s.raiseOn p k).epochOld = s.epochOld := by cases p <;> rfl
@[simp] theorem State.raiseOn_cfg (s : State) (p : Port) (k : NoticeKind) : (s.raiseOn p k).cfg = s.cfg := by cases p <;> rfl
@[simp] theorem State.raiseOn_source (s : State) (p : Port) (k : NoticeKind) : (s.raiseOn p k).source = s.source := by cases p <;> rfl
@[simp] theorem State.raiseOn_stored (s : State) (p : Port) (k : NoticeKind) : (s.raiseOn p k).stored = s.stored := by cases p <;> rfl
@[simp] theorem State.raiseOn_store (s : State) (p : Port) (k : NoticeKind) : (s.raiseOn p k).store = s.store := by cases p <;> rfl
@[simp] theorem State.raiseOn_pwm (s : State) (p : Port) (k : NoticeKind) : (s.raiseOn p k).pwm = s.pwm := by cases p <;> rfl
@[simp] theorem State.raiseOn_epoch (s : State) (p : Port) (k : NoticeKind) : (s.raiseOn p k).epoch = s.epoch := by cases p <;> rfl
@[simp] theorem State.raiseOn_slots (s : State) (p : Port) (k : NoticeKind) : (s.raiseOn p k).slots = s.slots := by cases p <;> rfl
@[simp] theorem State.raiseOn_demands (s : State) (p : Port) (k : NoticeKind) : (s.raiseOn p k).demands = s.demands := by cases p <;> rfl
@[simp] theorem State.raiseOn_chans (s : State) (p : Port) (k : NoticeKind) : (s.raiseOn p k).chans = s.chans := by cases p <;> rfl
@[simp] theorem State.raiseOn_chime0 (s : State) (p : Port) (k : NoticeKind) : (s.raiseOn p k).chime0 = s.chime0 := by cases p <;> rfl
@[simp] theorem State.raiseOn_chime1 (s : State) (p : Port) (k : NoticeKind) : (s.raiseOn p k).chime1 = s.chime1 := by cases p <;> rfl
@[simp] theorem State.raiseOn_guards (s : State) (p : Port) (k : NoticeKind) : (s.raiseOn p k).guards = s.guards := by cases p <;> rfl
@[simp] theorem State.raiseOn_lines (s : State) (p : Port) (k : NoticeKind) : (s.raiseOn p k).lines = s.lines := by cases p <;> rfl
@[simp] theorem State.raiseOn_panelLeft (s : State) (p : Port) (k : NoticeKind) : (s.raiseOn p k).panelLeft = s.panelLeft := by cases p <;> rfl
@[simp] theorem State.raiseOn_panelRight (s : State) (p : Port) (k : NoticeKind) : (s.raiseOn p k).panelRight = s.panelRight := by cases p <;> rfl
@[simp] theorem State.raiseOn_clu (s : State) (p : Port) (k : NoticeKind) : (s.raiseOn p k).clu = s.clu := by cases p <;> rfl
@[simp] theorem State.raiseOn_chan_of (s : State) (p : Port) (k : NoticeKind) (e : Door) : (s.raiseOn p k).chan e = s.chan e := by cases p <;> rfl
@[simp] theorem State.raiseOn_guard_of (s : State) (p : Port) (k : NoticeKind) (e : Door) : (s.raiseOn p k).guard e = s.guard e := by cases p <;> rfl
@[simp] theorem State.raiseOn_demand_of (s : State) (p : Port) (k : NoticeKind) (e : Door) : (s.raiseOn p k).demand e = s.demand e := by cases p <;> rfl
@[simp] theorem State.raiseOn_slot_of (s : State) (p : Port) (k : NoticeKind) (j : SlotNo) : (s.raiseOn p k).slot j = s.slot j := by cases p <;> rfl
@[simp] theorem State.raiseOn_hold_of (s : State) (p : Port) (k : NoticeKind) (j : SlotNo) : (s.raiseOn p k).hold j = s.hold j := by cases p <;> rfl
@[simp] theorem State.raiseOn_cluDoor_of (s : State) (p : Port) (k : NoticeKind) (e : Door) : (s.raiseOn p k).cluDoor e = s.cluDoor e := by cases p <;> rfl
@[simp] theorem State.raiseOn_filter_of (s : State) (p : Port) (k : NoticeKind) (l : Line) : (s.raiseOn p k).filter l = s.filter l := by cases p <;> rfl
@[simp] theorem State.raiseOn_asserted_of (s : State) (p : Port) (k : NoticeKind) (l : Line) : (s.raiseOn p k).asserted l = s.asserted l := by cases p <;> rfl
@[simp] theorem State.raiseOn_fitted_of (s : State) (p : Port) (k : NoticeKind) (e : Door) : (s.raiseOn p k).fitted e = s.fitted e := by cases p <;> rfl
@[simp] theorem State.raiseOn_running_of (s : State) (p : Port) (k : NoticeKind) : (s.raiseOn p k).running = s.running := by cases p <;> rfl
@[simp] theorem State.raiseOn_bothMade_of (s : State) (p : Port) (k : NoticeKind) (e : Door) : (s.raiseOn p k).bothMade e = s.bothMade e := by cases p <;> rfl
@[simp] theorem State.raiseOn_chanInRun_of (s : State) (p : Port) (k : NoticeKind) (e : Door) : (s.raiseOn p k).chanInRun e = s.chanInRun e := by cases p <;> rfl
@[simp] theorem State.raiseOn_allProven_of (s : State) (p : Port) (k : NoticeKind) : (s.raiseOn p k).allProven = s.allProven := by cases p <;> rfl

/-! ### raiseBoth -/

@[simp] theorem State.raiseBoth_pending (s : State) (k : NoticeKind) : (s.raiseBoth k).pending = s.pending := rfl
@[simp] theorem State.raiseBoth_sent (s : State) (k : NoticeKind) : (s.raiseBoth k).sent = s.sent := rfl
@[simp] theorem State.raiseBoth_free (s : State) (k : NoticeKind) : (s.raiseBoth k).free = s.free := rfl
@[simp] theorem State.raiseBoth_supply (s : State) (k : NoticeKind) : (s.raiseBoth k).supply = s.supply := rfl
@[simp] theorem State.raiseBoth_resetLine (s : State) (k : NoticeKind) : (s.raiseBoth k).resetLine = s.resetLine := rfl
@[simp] theorem State.raiseBoth_mode (s : State) (k : NoticeKind) : (s.raiseBoth k).mode = s.mode := rfl
@[simp] theorem State.raiseBoth_resetCause (s : State) (k : NoticeKind) : (s.raiseBoth k).resetCause = s.resetCause := rfl
@[simp] theorem State.raiseBoth_epochCell (s : State) (k : NoticeKind) : (s.raiseBoth k).epochCell = s.epochCell := rfl
@[simp] theorem State.raiseBoth_epochOld (s : State) (k : NoticeKind) : (s.raiseBoth k).epochOld = s.epochOld := rfl
@[simp] theorem State.raiseBoth_cfg (s : State) (k : NoticeKind) : (s.raiseBoth k).cfg = s.cfg := rfl
@[simp] theorem State.raiseBoth_source (s : State) (k : NoticeKind) : (s.raiseBoth k).source = s.source := rfl
@[simp] theorem State.raiseBoth_stored (s : State) (k : NoticeKind) : (s.raiseBoth k).stored = s.stored := rfl
@[simp] theorem State.raiseBoth_store (s : State) (k : NoticeKind) : (s.raiseBoth k).store = s.store := rfl
@[simp] theorem State.raiseBoth_pwm (s : State) (k : NoticeKind) : (s.raiseBoth k).pwm = s.pwm := rfl
@[simp] theorem State.raiseBoth_epoch (s : State) (k : NoticeKind) : (s.raiseBoth k).epoch = s.epoch := rfl
@[simp] theorem State.raiseBoth_slots (s : State) (k : NoticeKind) : (s.raiseBoth k).slots = s.slots := rfl
@[simp] theorem State.raiseBoth_demands (s : State) (k : NoticeKind) : (s.raiseBoth k).demands = s.demands := rfl
@[simp] theorem State.raiseBoth_chans (s : State) (k : NoticeKind) : (s.raiseBoth k).chans = s.chans := rfl
@[simp] theorem State.raiseBoth_chime0 (s : State) (k : NoticeKind) : (s.raiseBoth k).chime0 = s.chime0 := rfl
@[simp] theorem State.raiseBoth_chime1 (s : State) (k : NoticeKind) : (s.raiseBoth k).chime1 = s.chime1 := rfl
@[simp] theorem State.raiseBoth_guards (s : State) (k : NoticeKind) : (s.raiseBoth k).guards = s.guards := rfl
@[simp] theorem State.raiseBoth_lines (s : State) (k : NoticeKind) : (s.raiseBoth k).lines = s.lines := rfl
@[simp] theorem State.raiseBoth_panelLeft (s : State) (k : NoticeKind) : (s.raiseBoth k).panelLeft = s.panelLeft := rfl
@[simp] theorem State.raiseBoth_panelRight (s : State) (k : NoticeKind) : (s.raiseBoth k).panelRight = s.panelRight := rfl
@[simp] theorem State.raiseBoth_clu (s : State) (k : NoticeKind) : (s.raiseBoth k).clu = s.clu := rfl
@[simp] theorem State.raiseBoth_chan_of (s : State) (k : NoticeKind) (e : Door) : (s.raiseBoth k).chan e = s.chan e := rfl
@[simp] theorem State.raiseBoth_guard_of (s : State) (k : NoticeKind) (e : Door) : (s.raiseBoth k).guard e = s.guard e := rfl
@[simp] theorem State.raiseBoth_demand_of (s : State) (k : NoticeKind) (e : Door) : (s.raiseBoth k).demand e = s.demand e := rfl
@[simp] theorem State.raiseBoth_slot_of (s : State) (k : NoticeKind) (j : SlotNo) : (s.raiseBoth k).slot j = s.slot j := rfl
@[simp] theorem State.raiseBoth_hold_of (s : State) (k : NoticeKind) (j : SlotNo) : (s.raiseBoth k).hold j = s.hold j := rfl
@[simp] theorem State.raiseBoth_cluDoor_of (s : State) (k : NoticeKind) (e : Door) : (s.raiseBoth k).cluDoor e = s.cluDoor e := rfl
@[simp] theorem State.raiseBoth_filter_of (s : State) (k : NoticeKind) (l : Line) : (s.raiseBoth k).filter l = s.filter l := rfl
@[simp] theorem State.raiseBoth_asserted_of (s : State) (k : NoticeKind) (l : Line) : (s.raiseBoth k).asserted l = s.asserted l := rfl
@[simp] theorem State.raiseBoth_fitted_of (s : State) (k : NoticeKind) (e : Door) : (s.raiseBoth k).fitted e = s.fitted e := rfl
@[simp] theorem State.raiseBoth_running_of (s : State) (k : NoticeKind) : (s.raiseBoth k).running = s.running := rfl
@[simp] theorem State.raiseBoth_bothMade_of (s : State) (k : NoticeKind) (e : Door) : (s.raiseBoth k).bothMade e = s.bothMade e := rfl
@[simp] theorem State.raiseBoth_chanInRun_of (s : State) (k : NoticeKind) (e : Door) : (s.raiseBoth k).chanInRun e = s.chanInRun e := rfl
@[simp] theorem State.raiseBoth_allProven_of (s : State) (k : NoticeKind) : (s.raiseBoth k).allProven = s.allProven := rfl

/-! ### raiseDoor -/

@[simp] theorem State.raiseDoor_pending (s : State) (k : NoticeKind) (d : Door) : (s.raiseDoor k d).pending = s.pending := rfl
@[simp] theorem State.raiseDoor_sent (s : State) (k : NoticeKind) (d : Door) : (s.raiseDoor k d).sent = s.sent := rfl
@[simp] theorem State.raiseDoor_free (s : State) (k : NoticeKind) (d : Door) : (s.raiseDoor k d).free = s.free := rfl
@[simp] theorem State.raiseDoor_supply (s : State) (k : NoticeKind) (d : Door) : (s.raiseDoor k d).supply = s.supply := rfl
@[simp] theorem State.raiseDoor_resetLine (s : State) (k : NoticeKind) (d : Door) : (s.raiseDoor k d).resetLine = s.resetLine := rfl
@[simp] theorem State.raiseDoor_mode (s : State) (k : NoticeKind) (d : Door) : (s.raiseDoor k d).mode = s.mode := rfl
@[simp] theorem State.raiseDoor_resetCause (s : State) (k : NoticeKind) (d : Door) : (s.raiseDoor k d).resetCause = s.resetCause := rfl
@[simp] theorem State.raiseDoor_epochCell (s : State) (k : NoticeKind) (d : Door) : (s.raiseDoor k d).epochCell = s.epochCell := rfl
@[simp] theorem State.raiseDoor_epochOld (s : State) (k : NoticeKind) (d : Door) : (s.raiseDoor k d).epochOld = s.epochOld := rfl
@[simp] theorem State.raiseDoor_cfg (s : State) (k : NoticeKind) (d : Door) : (s.raiseDoor k d).cfg = s.cfg := rfl
@[simp] theorem State.raiseDoor_source (s : State) (k : NoticeKind) (d : Door) : (s.raiseDoor k d).source = s.source := rfl
@[simp] theorem State.raiseDoor_stored (s : State) (k : NoticeKind) (d : Door) : (s.raiseDoor k d).stored = s.stored := rfl
@[simp] theorem State.raiseDoor_store (s : State) (k : NoticeKind) (d : Door) : (s.raiseDoor k d).store = s.store := rfl
@[simp] theorem State.raiseDoor_pwm (s : State) (k : NoticeKind) (d : Door) : (s.raiseDoor k d).pwm = s.pwm := rfl
@[simp] theorem State.raiseDoor_epoch (s : State) (k : NoticeKind) (d : Door) : (s.raiseDoor k d).epoch = s.epoch := rfl
@[simp] theorem State.raiseDoor_slots (s : State) (k : NoticeKind) (d : Door) : (s.raiseDoor k d).slots = s.slots := rfl
@[simp] theorem State.raiseDoor_demands (s : State) (k : NoticeKind) (d : Door) : (s.raiseDoor k d).demands = s.demands := rfl
@[simp] theorem State.raiseDoor_chans (s : State) (k : NoticeKind) (d : Door) : (s.raiseDoor k d).chans = s.chans := rfl
@[simp] theorem State.raiseDoor_chime0 (s : State) (k : NoticeKind) (d : Door) : (s.raiseDoor k d).chime0 = s.chime0 := rfl
@[simp] theorem State.raiseDoor_chime1 (s : State) (k : NoticeKind) (d : Door) : (s.raiseDoor k d).chime1 = s.chime1 := rfl
@[simp] theorem State.raiseDoor_guards (s : State) (k : NoticeKind) (d : Door) : (s.raiseDoor k d).guards = s.guards := rfl
@[simp] theorem State.raiseDoor_lines (s : State) (k : NoticeKind) (d : Door) : (s.raiseDoor k d).lines = s.lines := rfl
@[simp] theorem State.raiseDoor_panelLeft (s : State) (k : NoticeKind) (d : Door) : (s.raiseDoor k d).panelLeft = s.panelLeft := rfl
@[simp] theorem State.raiseDoor_panelRight (s : State) (k : NoticeKind) (d : Door) : (s.raiseDoor k d).panelRight = s.panelRight := rfl
@[simp] theorem State.raiseDoor_clu (s : State) (k : NoticeKind) (d : Door) : (s.raiseDoor k d).clu = s.clu := rfl
@[simp] theorem State.raiseDoor_chan_of (s : State) (k : NoticeKind) (d : Door) (e : Door) : (s.raiseDoor k d).chan e = s.chan e := rfl
@[simp] theorem State.raiseDoor_guard_of (s : State) (k : NoticeKind) (d : Door) (e : Door) : (s.raiseDoor k d).guard e = s.guard e := rfl
@[simp] theorem State.raiseDoor_demand_of (s : State) (k : NoticeKind) (d : Door) (e : Door) : (s.raiseDoor k d).demand e = s.demand e := rfl
@[simp] theorem State.raiseDoor_slot_of (s : State) (k : NoticeKind) (d : Door) (j : SlotNo) : (s.raiseDoor k d).slot j = s.slot j := rfl
@[simp] theorem State.raiseDoor_hold_of (s : State) (k : NoticeKind) (d : Door) (j : SlotNo) : (s.raiseDoor k d).hold j = s.hold j := rfl
@[simp] theorem State.raiseDoor_cluDoor_of (s : State) (k : NoticeKind) (d : Door) (e : Door) : (s.raiseDoor k d).cluDoor e = s.cluDoor e := rfl
@[simp] theorem State.raiseDoor_filter_of (s : State) (k : NoticeKind) (d : Door) (l : Line) : (s.raiseDoor k d).filter l = s.filter l := rfl
@[simp] theorem State.raiseDoor_asserted_of (s : State) (k : NoticeKind) (d : Door) (l : Line) : (s.raiseDoor k d).asserted l = s.asserted l := rfl
@[simp] theorem State.raiseDoor_fitted_of (s : State) (k : NoticeKind) (d : Door) (e : Door) : (s.raiseDoor k d).fitted e = s.fitted e := rfl
@[simp] theorem State.raiseDoor_running_of (s : State) (k : NoticeKind) (d : Door) : (s.raiseDoor k d).running = s.running := rfl
@[simp] theorem State.raiseDoor_bothMade_of (s : State) (k : NoticeKind) (d : Door) (e : Door) : (s.raiseDoor k d).bothMade e = s.bothMade e := rfl
@[simp] theorem State.raiseDoor_chanInRun_of (s : State) (k : NoticeKind) (d : Door) (e : Door) : (s.raiseDoor k d).chanInRun e = s.chanInRun e := rfl
@[simp] theorem State.raiseDoor_allProven_of (s : State) (k : NoticeKind) (d : Door) : (s.raiseDoor k d).allProven = s.allProven := rfl

/-! ### settle -/

@[simp] theorem State.settle_pending (s : State)  : (s.settle).pending = s.pending := rfl
@[simp] theorem State.settle_sent (s : State)  : (s.settle).sent = s.sent := rfl
@[simp] theorem State.settle_free (s : State)  : (s.settle).free = s.free := rfl
@[simp] theorem State.settle_supply (s : State)  : (s.settle).supply = s.supply := rfl
@[simp] theorem State.settle_resetLine (s : State)  : (s.settle).resetLine = s.resetLine := rfl
@[simp] theorem State.settle_mode (s : State)  : (s.settle).mode = s.mode := rfl
@[simp] theorem State.settle_resetCause (s : State)  : (s.settle).resetCause = s.resetCause := rfl
@[simp] theorem State.settle_epochCell (s : State)  : (s.settle).epochCell = s.epochCell := rfl
@[simp] theorem State.settle_cfg (s : State)  : (s.settle).cfg = s.cfg := rfl
@[simp] theorem State.settle_source (s : State)  : (s.settle).source = s.source := rfl
@[simp] theorem State.settle_stored (s : State)  : (s.settle).stored = s.stored := rfl
@[simp] theorem State.settle_store (s : State)  : (s.settle).store = s.store := rfl
@[simp] theorem State.settle_pwm (s : State)  : (s.settle).pwm = s.pwm := rfl
@[simp] theorem State.settle_epoch (s : State)  : (s.settle).epoch = s.epoch := rfl
@[simp] theorem State.settle_slots (s : State)  : (s.settle).slots = s.slots := rfl
@[simp] theorem State.settle_demands (s : State)  : (s.settle).demands = s.demands := rfl
@[simp] theorem State.settle_chans (s : State)  : (s.settle).chans = s.chans := rfl
@[simp] theorem State.settle_guards (s : State)  : (s.settle).guards = s.guards := rfl
@[simp] theorem State.settle_lines (s : State)  : (s.settle).lines = s.lines := rfl
@[simp] theorem State.settle_panelLeft (s : State)  : (s.settle).panelLeft = s.panelLeft := rfl
@[simp] theorem State.settle_panelRight (s : State)  : (s.settle).panelRight = s.panelRight := rfl
@[simp] theorem State.settle_clu (s : State)  : (s.settle).clu = s.clu := rfl
@[simp] theorem State.settle_chan_of (s : State) (e : Door) : (s.settle).chan e = s.chan e := rfl
@[simp] theorem State.settle_guard_of (s : State) (e : Door) : (s.settle).guard e = s.guard e := rfl
@[simp] theorem State.settle_demand_of (s : State) (e : Door) : (s.settle).demand e = s.demand e := rfl
@[simp] theorem State.settle_slot_of (s : State) (j : SlotNo) : (s.settle).slot j = s.slot j := rfl
@[simp] theorem State.settle_hold_of (s : State) (j : SlotNo) : (s.settle).hold j = s.hold j := rfl
@[simp] theorem State.settle_cluDoor_of (s : State) (e : Door) : (s.settle).cluDoor e = s.cluDoor e := rfl
@[simp] theorem State.settle_filter_of (s : State) (l : Line) : (s.settle).filter l = s.filter l := rfl
@[simp] theorem State.settle_asserted_of (s : State) (l : Line) : (s.settle).asserted l = s.asserted l := rfl
@[simp] theorem State.settle_fitted_of (s : State) (e : Door) : (s.settle).fitted e = s.fitted e := rfl
@[simp] theorem State.settle_running_of (s : State)  : (s.settle).running = s.running := rfl
@[simp] theorem State.settle_bothMade_of (s : State) (e : Door) : (s.settle).bothMade e = s.bothMade e := rfl
@[simp] theorem State.settle_chanInRun_of (s : State) (e : Door) : (s.settle).chanInRun e = s.chanInRun e := rfl
@[simp] theorem State.settle_allProven_of (s : State)  : (s.settle).allProven = s.allProven := rfl

/-! ### What an update writes -/

@[simp] theorem State.chan_setChan (s : State) (d : Door) (c : Channel) : (s.setChan d c).chan d = c := by
  simp [State.chan, State.setChan]

theorem State.chan_setChan_ne (s : State) (d e : Door) (c : Channel) (h : e ≠ d) :
    (s.setChan d c).chan e = s.chan e := by
  simp [State.chan, State.setChan, Fin.val_inj, Ne.symm h]

@[simp] theorem State.chan_modChan (s : State) (d : Door) (f : Channel → Channel) :
    (s.modChan d f).chan d = f (s.chan d) := by simp [State.modChan]

theorem State.chan_modChan_ne (s : State) (d e : Door) (f : Channel → Channel) (h : e ≠ d) :
    (s.modChan d f).chan e = s.chan e := by simp [State.modChan, State.chan_setChan_ne, h]

@[simp] theorem State.guard_setGuard (s : State) (d : Door) (g : Guard) : (s.setGuard d g).guard d = g := by
  simp [State.guard, State.setGuard]

theorem State.guard_setGuard_ne (s : State) (d e : Door) (g : Guard) (h : e ≠ d) :
    (s.setGuard d g).guard e = s.guard e := by
  simp [State.guard, State.setGuard, Fin.val_inj, Ne.symm h]

@[simp] theorem State.guard_modGuard (s : State) (d : Door) (f : Guard → Guard) :
    (s.modGuard d f).guard d = f (s.guard d) := by simp [State.modGuard]

theorem State.guard_modGuard_ne (s : State) (d e : Door) (f : Guard → Guard) (h : e ≠ d) :
    (s.modGuard d f).guard e = s.guard e := by simp [State.modGuard, State.guard_setGuard_ne, h]

@[simp] theorem State.demand_setDemand (s : State) (d : Door) (r : Demand) :
    (s.setDemand d r).demand d = r := by
  simp [State.demand, State.setDemand]

theorem State.demand_setDemand_ne (s : State) (d e : Door) (r : Demand) (h : e ≠ d) :
    (s.setDemand d r).demand e = s.demand e := by
  simp [State.demand, State.setDemand, Fin.val_inj, Ne.symm h]

@[simp] theorem State.slot_setSlot (s : State) (i : SlotNo) (x : Slot) : (s.setSlot i x).slot i = x := by
  simp [State.slot, State.setSlot]

theorem State.slot_setSlot_ne (s : State) (i j : SlotNo) (x : Slot) (h : j ≠ i) :
    (s.setSlot i x).slot j = s.slot j := by
  simp [State.slot, State.setSlot, Fin.val_inj, Ne.symm h]

@[simp] theorem State.hold_setHold (s : State) (i : SlotNo) (h : Hold) : (s.setHold i h).hold i = some h := by
  simp [State.hold, State.setHold]

theorem State.hold_setHold_ne (s : State) (i j : SlotNo) (h : Hold) (hne : j ≠ i) :
    (s.setHold i h).hold j = s.hold j := by
  simp [State.hold, State.setHold, State.slot_setSlot_ne, hne]

@[simp] theorem State.cluDoor_setCluDoor (s : State) (d : Door) (x : CluDoor) :
    (s.setCluDoor d x).cluDoor d = x := by
  simp [State.cluDoor, State.setCluDoor]

theorem State.cluDoor_setCluDoor_ne (s : State) (d e : Door) (x : CluDoor) (h : e ≠ d) :
    (s.setCluDoor d x).cluDoor e = s.cluDoor e := by
  simp [State.cluDoor, State.setCluDoor, Fin.val_inj, Ne.symm h]

@[simp] theorem State.port_setPort (s : State) (p : Port) (x : PortState) : (s.setPort p x).port p = x := by
  cases p <;> rfl

@[simp] theorem State.port_setPort_other (s : State) (p : Port) (x : PortState) :
    (s.setPort p x).port (otherPort p) = s.port (otherPort p) := by
  cases p <;> rfl

@[simp] theorem State.port_modPort (s : State) (p : Port) (f : PortState → PortState) :
    (s.modPort p f).port p = f (s.port p) := by
  cases p <;> rfl

@[simp] theorem State.port_modPort_other (s : State) (p : Port) (f : PortState → PortState) :
    (s.modPort p f).port (otherPort p) = s.port (otherPort p) := by
  cases p <;> rfl

@[simp] theorem State.send_sent (s : State) (c : Instr) : (s.send c).sent = s.sent ++ [c] := rfl

/-- A line's own filter after it was put. -/
@[simp] theorem LineBank.get_put (b : LineBank) (l : Line) (f : Filter) : (b.put l f).get l = f := by
  cases l <;> simp [LineBank.get, LineBank.put]

theorem LineBank.get_put_ne (b : LineBank) (l m : Line) (f : Filter) (h : m ≠ l) :
    (b.put l f).get m = b.get m := by
  cases l <;> cases m <;>
    first
    | rfl
    | (exact absurd rfl h)
    | (simp only [LineBank.get, LineBank.put]
       refine Vector.getElem_set_ne _ _ ?_
       intro he
       exact h (congrArg _ (Fin.ext he.symm)))

@[simp] theorem State.filter_setFilter (s : State) (l : Line) (f : Filter) : (s.setFilter l f).filter l = f := by
  simp [State.filter, State.setFilter]

theorem State.filter_setFilter_ne (s : State) (l m : Line) (f : Filter) (h : m ≠ l) :
    (s.setFilter l f).filter m = s.filter m := by
  simp [State.filter, State.setFilter, LineBank.get_put_ne, h]

end Sys2Proof.Machine
end

