-- ==== Sys2Proof/Laws/Frame.lean ====
section
/-! SUPPORT. What the operations of one channel leave alone: a blanked copy of the state, equal before and
after, for each shared operation of Machine/Channel.lean. -/

namespace Sys2Proof.Machine

/-- A port without the notices that a channel may raise. -/
def PortState.blank (x : PortState) : PortState :=
  { x with kinds := 0#8, standing := 0#8, fault := 0#8, egress := 0#8 }

/-- The events that channel d and its guard section send. -/
def sentFrom (d : Door) (e : Instr) : Bool :=
  route e == some (.guardToTable d) || route e == some (.channelToTable d) || route e == some (.channelToClu d)

/-- The state without what channel d and its guard section may write. -/
def State.blank (d : Door) (s : State) : State :=
  { s with
    chans := s.chans.set d (.start false .low .low), guards := s.guards.set d .start
    demands := s.demands.set d .resting, sent := s.sent.filter (fun e => !sentFrom d e)
    portT := s.portT.blank, portS := s.portS.blank }

/-- The state without what any channel or guard section may write. -/
def State.bare (s : State) : State :=
  { s with
    chans := .replicate 8 (.start false .low .low), guards := .replicate 8 .start
    demands := .replicate 8 .resting, sent := []
    portT := s.portT.blank, portS := s.portS.blank }

/-- What is left alone at one doorway is left alone at all. -/
theorem State.bare_of_blank {d : Door} {s t : State} (h : t.blank d = s.blank d) : t.bare = s.bare := by
  have := congrArg State.bare h
  simpa [State.blank, State.bare, PortState.blank] using this

section Bare
variable {s t : State} (h : t.bare = s.bare)
include h

theorem State.slots_of_bare : t.slots = s.slots :=
  show t.bare.slots = s.bare.slots from congrArg State.slots h
theorem State.cfg_of_bare : t.cfg = s.cfg :=
  show t.bare.cfg = s.bare.cfg from congrArg State.cfg h
theorem State.mode_of_bare : t.mode = s.mode :=
  show t.bare.mode = s.bare.mode from congrArg State.mode h
theorem State.epoch_of_bare : t.epoch = s.epoch :=
  show t.bare.epoch = s.bare.epoch from congrArg State.epoch h
theorem State.lines_of_bare : t.lines = s.lines :=
  show t.bare.lines = s.bare.lines from congrArg State.lines h
theorem State.clu_of_bare : t.clu = s.clu :=
  show t.bare.clu = s.bare.clu from congrArg State.clu h
theorem State.pending_of_bare : t.pending = s.pending :=
  show t.bare.pending = s.bare.pending from congrArg State.pending h
theorem State.free_of_bare : t.free = s.free :=
  show t.bare.free = s.bare.free from congrArg State.free h
theorem State.supply_of_bare : t.supply = s.supply :=
  show t.bare.supply = s.bare.supply from congrArg State.supply h
theorem State.resetLine_of_bare : t.resetLine = s.resetLine :=
  show t.bare.resetLine = s.bare.resetLine from congrArg State.resetLine h
theorem State.store_of_bare : t.store = s.store :=
  show t.bare.store = s.bare.store from congrArg State.store h
theorem State.stored_of_bare : t.stored = s.stored :=
  show t.bare.stored = s.bare.stored from congrArg State.stored h

theorem State.hold_of_bare (i : SlotNo) : t.hold i = s.hold i := by
  simp [State.hold, State.slot, State.slots_of_bare h]
theorem State.fitted_of_bare (d : Door) : t.fitted d = s.fitted d := by
  simp [State.fitted, State.cfg_of_bare h]
theorem State.asserted_of_bare (l : Line) : t.asserted l = s.asserted l := by
  simp [State.asserted, State.isActive, State.filter, State.cfg_of_bare h, State.lines_of_bare h]
theorem State.running_of_bare : t.running = s.running := by
  simp [State.running, State.supply_of_bare h, State.resetLine_of_bare h]

end Bare

section Blank
variable {d : Door} {s t : State} (h : t.blank d = s.blank d)
include h

theorem State.chan_of_blank {e : Door} (he : e ≠ d) : t.chan e = s.chan e := by
  have := congrArg (fun x => x.chan e) h
  simpa [State.blank, State.chan, Vector.getElem_set, Fin.val_inj, Ne.symm he] using this

theorem State.guard_of_blank {e : Door} (he : e ≠ d) : t.guard e = s.guard e := by
  have := congrArg (fun x => x.guard e) h
  simpa [State.blank, State.guard, Vector.getElem_set, Fin.val_inj, Ne.symm he] using this

theorem State.demand_of_blank {e : Door} (he : e ≠ d) : t.demand e = s.demand e := by
  have := congrArg (fun x => x.demand e) h
  simpa [State.blank, State.demand, Vector.getElem_set, Fin.val_inj, Ne.symm he] using this

end Blank

/-! ### What a channel and its guard section send -/

@[simp] theorem slotRole_grdSlot (d : Door) : slotRole (grdSlot d) = .grd d := by revert d; decide

theorem sentFrom_of_grd {d : Door} {e : Instr} (h : isGrdPlacement d e = true) : sentFrom d e = true := by
  simp only [isGrdPlacement] at h
  simp [sentFrom, h]

@[simp] theorem sentFrom_grdPlacement (cfg : Image) (d : Door) (p : Position) :
    sentFrom d (.internalPlacement (grdPlacement cfg d p)) = true := by
  simp [sentFrom, route, grdPlacement]
@[simp] theorem sentFrom_countdownStart (d : Door) : sentFrom d (.countdownStart d) = true := by
  simp [sentFrom, route]
@[simp] theorem sentFrom_channelEntryAtTable (d : Door) (k : EntryKind) :
    sentFrom d (.channelEntryAtTable d k) = true := by
  simp [sentFrom, route]
@[simp] theorem sentFrom_channelStateAtClu (d : Door) (st : ChState) :
    sentFrom d (.channelStateAtClu d st) = true := by
  simp [sentFrom, route]

/-- No event is sent by two doorways. -/
theorem not_sentFrom_of_ne {d e : Door} (h : d ≠ e) {c : Instr} (hc : sentFrom d c = true) : sentFrom e c = false := by
  simp only [sentFrom, Bool.or_eq_true, beq_iff_eq] at hc
  rcases hc with (hc | hc) | hc <;> simp [sentFrom, hc, h]

/-! ### The named updates -/

section Updates
variable (d : Door) (s : State)

@[simp] theorem State.blank_setChan (c : Channel) : (s.setChan d c).blank d = s.blank d := by
  simp [State.blank, State.setChan]
@[simp] theorem State.blank_modChan (f : Channel → Channel) : (s.modChan d f).blank d = s.blank d := by
  simp [State.modChan]
@[simp] theorem State.blank_setGuard (g : Guard) : (s.setGuard d g).blank d = s.blank d := by
  simp [State.blank, State.setGuard]
@[simp] theorem State.blank_modGuard (f : Guard → Guard) : (s.modGuard d f).blank d = s.blank d := by
  simp [State.modGuard]
@[simp] theorem State.blank_setDemand (r : Demand) : (s.setDemand d r).blank d = s.blank d := by
  simp [State.blank, State.setDemand]
@[simp] theorem State.blank_send (c : Instr) (h : sentFrom d c = true) : (s.send c).blank d = s.blank d := by
  simp [State.blank, State.send, List.filter_append, h]
@[simp] theorem State.blank_dropGrd : (s.dropGrd d).blank d = s.blank d := by
  simp only [State.blank, State.dropGrd, List.filter_filter]
  congr 1
  refine List.filter_congr (fun e _ => ?_)
  by_cases h : isGrdPlacement d e = true
  · simp [h, sentFrom_of_grd h]
  · simp [h]
@[simp] theorem PortState.blank_raiseDoor (x : PortState) (k : NoticeKind) (e : Door) :
    (x.raiseDoor k e).blank = x.blank := by
  cases k <;> rfl
@[simp] theorem State.blank_raiseDoor (k : NoticeKind) (e : Door) :
    (s.raiseDoor k e).blank d = s.blank d := by
  have hT := PortState.blank_raiseDoor s.portT k e
  have hS := PortState.blank_raiseDoor s.portS k e
  simp only [State.blank, State.raiseDoor, State.modPort, State.setPort, State.port]
  rw [hT, hS]

end Updates

/-! ### The operations of a channel -/

section Channel
variable (d : Door) (s : State)

@[simp] theorem blank_enterState (st : ChState) (dr : Drive) (sol : Bool) (lamp : Lamp) :
    (enterState d st dr sol lamp s).blank d = s.blank d := by
  simp [enterState]
@[simp] theorem blank_clearReferenced : (clearReferenced d s).blank d = s.blank d := by
  unfold clearReferenced; dsimp only; split <;> simp
@[simp] theorem blank_enterFaulted : (enterFaulted d s).blank d = s.blank d := by
  simp [enterFaulted]
@[simp] theorem blank_detectCause (f : FaultCause) : (detectCause d f s).blank d = s.blank d := by
  unfold detectCause; dsimp only; split <;> simp
@[simp] theorem blank_bridgeCheck : (bridgeCheck d s).blank d = s.blank d := by
  unfold bridgeCheck; split <;> simp
@[simp] theorem blank_startPlaus : (startPlaus d s).blank d = s.blank d := by
  unfold startPlaus; split <;> simp
@[simp] theorem blank_enterOpen : (enterOpen d s).blank d = s.blank d := by
  simp [enterOpen]
@[simp] theorem blank_openingObstruction : (openingObstruction d s).blank d = s.blank d := by
  unfold openingObstruction; dsimp only; split <;> simp
@[simp] theorem blank_beginOpening (sl : Bool) : (beginOpening d sl s).blank d = s.blank d := by
  unfold beginOpening; dsimp only; split <;> simp
@[simp] theorem blank_openByPosition : (openByPosition d s).blank d = s.blank d := by
  unfold openByPosition; dsimp only; repeat' split
  all_goals simp
@[simp] theorem blank_enterUnlocking : (enterUnlocking d s).blank d = s.blank d := by
  unfold enterUnlocking; dsimp only; split <;> simp
@[simp] theorem blank_enterLocked : (enterLocked d s).blank d = s.blank d := by
  simp [enterLocked]
@[simp] theorem blank_enterLocking : (enterLocking d s).blank d = s.blank d := by
  unfold enterLocking; dsimp only; split <;> simp
@[simp] theorem blank_enterReseat : (enterReseat d s).blank d = s.blank d := by
  simp [enterReseat]
@[simp] theorem blank_takeReference (press : Bool) : (takeReference d press s).blank d = s.blank d := by
  unfold takeReference; dsimp only; repeat' split
  all_goals simp
@[simp] theorem blank_enterWarning : (enterWarning d s).blank d = s.blank d := by
  simp [enterWarning]
@[simp] theorem blank_enterStopping : (enterStopping d s).blank d = s.blank d := by
  simp [enterStopping]
@[simp] theorem blank_enterStanding : (enterStanding d s).blank d = s.blank d := by
  simp [enterStanding]
@[simp] theorem blank_enterEgress : (enterEgress d s).blank d = s.blank d := by
  simp [enterEgress]
@[simp] theorem blank_endRelief : (endRelief d s).blank d = s.blank d := by
  unfold endRelief; repeat' split
  all_goals simp
@[simp] theorem blank_enterRelief : (enterRelief d s).blank d = s.blank d := by
  unfold enterRelief; dsimp only; split <;> simp
@[simp] theorem blank_closingDetection (c : ObsCause) : (closingDetection d c s).blank d = s.blank d := by
  unfold closingDetection; dsimp only; split <;> simp
@[simp] theorem blank_forceDetection : (forceDetection d s).blank d = s.blank d := by
  unfold forceDetection; split <;> simp
@[simp] theorem blank_senseAtStart : (senseAtStart d s).blank d = s.blank d := by
  unfold senseAtStart; repeat' split
  all_goals simp
@[simp] theorem blank_beginClosing : (beginClosing d s).blank d = s.blank d := by
  unfold beginClosing; dsimp only; split <;> simp
@[simp] theorem blank_endReferencing : (endReferencing d s).blank d = s.blank d := by
  simp [endReferencing]
@[simp] theorem blank_enterReferencing : (enterReferencing d s).blank d = s.blank d := by
  unfold enterReferencing; dsimp only; repeat' split
  all_goals simp
@[simp] theorem blank_actUnreferenced : (actUnreferenced d s).blank d = s.blank d := by
  unfold actUnreferenced; dsimp only; repeat' split
  all_goals simp
@[simp] theorem blank_enterUnreferenced : (enterUnreferenced d s).blank d = s.blank d := by
  unfold enterUnreferenced; dsimp only; repeat' split
  all_goals simp
@[simp] theorem blank_exitEgress : (exitEgress d s).blank d = s.blank d := by
  unfold exitEgress; dsimp only; repeat' split
  all_goals simp
@[simp] theorem blank_reactOpen : (reactOpen d s).blank d = s.blank d := by
  unfold reactOpen; dsimp only; repeat' split
  all_goals simp
@[simp] theorem blank_reactSlideOpen : (reactSlideOpen d s).blank d = s.blank d := by
  unfold reactSlideOpen; repeat' split
  all_goals simp
@[simp] theorem blank_reactOpenBlocked : (reactOpenBlocked d s).blank d = s.blank d := by
  unfold reactOpenBlocked; repeat' split
  all_goals simp
@[simp] theorem blank_reactToOpen : (reactToOpen d s).blank d = s.blank d := by
  unfold reactToOpen; split <;> simp
@[simp] theorem blank_reactToClose : (reactToClose d s).blank d = s.blank d := by
  unfold reactToClose; split <;> simp
@[simp] theorem blank_reactWarningUnreferenced : (reactWarningUnreferenced d s).blank d = s.blank d := by
  unfold reactWarningUnreferenced; dsimp only; split <;> simp
@[simp] theorem blank_react (old : Demand) : (react d old s).blank d = s.blank d := by
  unfold react; dsimp only; repeat' split
  all_goals simp
theorem blank_atChannel (f : State → State) (hf : (f s).blank d = s.blank d) :
    (atChannel d f s).blank d = s.blank d := by
  unfold atChannel; dsimp only; split <;> simp [hf]
@[simp] theorem blank_recomputeDoor : (recomputeDoor d s).blank d = s.blank d := by
  unfold recomputeDoor; dsimp only; repeat' split
  · rfl
  · rfl
  · rw [blank_atChannel _ _ _ (by simp)]; simp

end Channel

/-! ### Recomputation of a scope (R41, R44) -/

theorem bare_recomputeDoor (d : Door) (s : State) : (recomputeDoor d s).bare = s.bare :=
  State.bare_of_blank (blank_recomputeDoor d s)

/-- A fold of recomputations over any doorways keeps everything that no channel writes. -/
theorem bare_recomputeList (sc : DoorSet) (ds : List Door) (s : State) :
    (ds.foldl (fun s d => if has sc d then recomputeDoor d s else s) s).bare = s.bare := by
  induction ds generalizing s with
  | nil => rfl
  | cons d ds ih =>
    rw [List.foldl_cons, ih]
    split
    · exact bare_recomputeDoor d s
    · rfl

/-- A recomputation of a scope writes nothing but channels, guard sections, demand records, outstanding
events and notices. -/
@[simp] theorem bare_recompute (sc : DoorSet) (s : State) : (recompute sc s).bare = s.bare :=
  bare_recomputeList sc doors s

/-- A doorway that no recomputation names keeps its channel, guard section and record. -/
theorem same_recomputeList (sc : DoorSet) (ds : List Door) (s : State) (e : Door)
    (he : has sc e = false ∨ s.fitted e = false) :
    let t := ds.foldl (fun s d => if has sc d then recomputeDoor d s else s) s
    t.chan e = s.chan e ∧ t.guard e = s.guard e ∧ t.demand e = s.demand e := by
  induction ds generalizing s with
  | nil => exact ⟨rfl, rfl, rfl⟩
  | cons d ds ih =>
    simp only [List.foldl_cons]
    by_cases hd : has sc d = true
    · simp only [hd, if_true]
      have hb := blank_recomputeDoor d s
      have hf : has sc e = false ∨ (recomputeDoor d s).fitted e = false := by
        rw [State.fitted_of_bare (State.bare_of_blank hb)]; exact he
      obtain ⟨h1, h2, h3⟩ := ih (recomputeDoor d s) hf
      by_cases hed : e = d
      · subst hed
        have hu : s.fitted e = false := by
          rcases he with h | h
          · rw [h] at hd; cases hd
          · exact h
        have hr : recomputeDoor e s = s := by simp [recomputeDoor, hu]
        rw [hr] at h1 h2 h3 ⊢
        exact ⟨h1, h2, h3⟩
      · rw [h1, h2, h3]
        exact ⟨State.chan_of_blank hb hed, State.guard_of_blank hb hed, State.demand_of_blank hb hed⟩
    · simp only [hd]
      exact ih s he

/-- R41, R44: a doorway outside the scope, or unfitted, is not touched by a recomputation. -/
theorem same_recompute (sc : DoorSet) (s : State) (e : Door) (he : has sc e = false ∨ s.fitted e = false) :
    (recompute sc s).chan e = s.chan e ∧ (recompute sc s).guard e = s.guard e ∧
    (recompute sc s).demand e = s.demand e :=
  same_recomputeList sc doors s e he

end Sys2Proof.Machine
end

