-- ==== Sys2Proof/Laws/Motion.lean ====
section
/-! SUPPORT. The frame of the events at a channel and at its guard section: each writes its own doorway only
(Machine/Motion.lean, Machine/Sensing.lean, Machine/DoorRequests.lean, Machine/Start.lean). -/

namespace Sys2Proof.Machine

section Events
variable (d : Door) (s : State)

theorem blank_inRun (f : State → State) (hf : (f s).blank d = s.blank d) :
    (inRun d f s).blank d = s.blank d := by
  unfold inRun; split
  · exact blank_atChannel d s f hf
  · rfl

@[simp] theorem blank_passOpening (sl : Bool) : (passOpening d sl s).blank d = s.blank d := by
  unfold passOpening; dsimp only; split <;> simp
@[simp] theorem blank_passClosing (sl : Bool) : (passClosing d sl s).blank d = s.blank d := by
  unfold passClosing; dsimp only; split <;> simp
@[simp] theorem blank_stepGeometry : (stepGeometry d s).blank d = s.blank d := by
  unfold stepGeometry; dsimp only; repeat' split
  all_goals simp
@[simp] theorem blank_stepInSlide (b : Channel) : (stepInSlide d b s).blank d = s.blank d := by
  unfold stepInSlide; dsimp only; split <;> simp
@[simp] theorem blank_stepInMotion (b : Channel) : (stepInMotion d b s).blank d = s.blank d := by
  unfold stepInMotion; dsimp only; repeat' split
  all_goals simp
@[simp] theorem blank_stepInRelief : (stepInRelief d s).blank d = s.blank d := by
  unfold stepInRelief; dsimp only; split <;> simp
@[simp] theorem blank_stepAtGuard (b : Channel) : (stepAtGuard d b s).blank d = s.blank d := by
  unfold stepAtGuard; repeat' split
  all_goals simp
@[simp] theorem blank_afterStep (b : Channel) : (afterStep d b s).blank d = s.blank d := by
  simp [afterStep]
@[simp] theorem blank_takeStep (dir : Dir) : (takeStep d dir s).blank d = s.blank d := by
  unfold takeStep; dsimp only; repeat' split
  · rfl
  · simp
  · exact blank_atChannel d s _ (by simp)
  · rw [blank_atChannel d _ _ (by simp)]; simp
@[simp] theorem blank_pairMade : (pairMade d s).blank d = s.blank d := by
  unfold pairMade; dsimp only; repeat' split
  all_goals simp
@[simp] theorem blank_clsMade : (clsMade d s).blank d = s.blank d := by
  unfold clsMade; dsimp only; repeat' split
  all_goals simp
@[simp] theorem blank_clsBroken : (clsBroken d s).blank d = s.blank d := by
  unfold clsBroken; dsimp only; repeat' split
  all_goals simp
@[simp] theorem blank_lksMade : (lksMade d s).blank d = s.blank d := by
  unfold lksMade; repeat' split
  all_goals simp
@[simp] theorem blank_lksBroken : (lksBroken d s).blank d = s.blank d := by
  unfold lksBroken; dsimp only; repeat' split
  all_goals simp
@[simp] theorem blank_warningEnd : (warningEnd d s).blank d = s.blank d := by
  unfold warningEnd; repeat' split
  all_goals simp
@[simp] theorem blank_pauseEnd : (pauseEnd d s).blank d = s.blank d := by
  unfold pauseEnd; repeat' split
  all_goals simp
@[simp] theorem blank_travelEnd : (travelEnd d s).blank d = s.blank d := by
  unfold travelEnd; split <;> simp
@[simp] theorem blank_unlockWaitEnd : (unlockWaitEnd d s).blank d = s.blank d := by
  unfold unlockWaitEnd; split <;> simp
@[simp] theorem blank_lockWaitEnd : (lockWaitEnd d s).blank d = s.blank d := by
  unfold lockWaitEnd; repeat' split
  all_goals simp
@[simp] theorem blank_retryNow : (retryNow d s).blank d = s.blank d := by
  unfold retryNow; split <;> simp
@[simp] theorem blank_retryWaitEnd : (retryWaitEnd d s).blank d = s.blank d := by
  unfold retryWaitEnd; split <;> simp
@[simp] theorem blank_plausEnd : (plausEnd d s).blank d = s.blank d := by
  unfold plausEnd; split <;> simp
@[simp] theorem blank_restartWarning : (restartWarning d s).blank d = s.blank d := by
  simp [restartWarning]
@[simp] theorem blank_edgeAsserted : (edgeAsserted d s).blank d = s.blank d := by
  unfold edgeAsserted; repeat' split
  all_goals simp
@[simp] theorem blank_forceAsserted : (forceAsserted d s).blank d = s.blank d := by
  unfold forceAsserted; split <;> simp
@[simp] theorem blank_stallIntervalEnd : (stallIntervalEnd d s).blank d = s.blank d := by
  unfold stallIntervalEnd; split <;> simp
@[simp] theorem blank_stallDetection : (stallDetection d s).blank d = s.blank d := by
  unfold stallDetection; repeat' split
  all_goals simp
@[simp] theorem blank_stallGraceEnd : (stallGraceEnd d s).blank d = s.blank d := by
  unfold stallGraceEnd; split <;> simp
@[simp] theorem blank_clearStanding : (clearStanding d s).blank d = s.blank d := by
  unfold clearStanding; split <;> simp
@[simp] theorem blank_clearDoor : (clearDoor d s).blank d = s.blank d := by
  unfold clearDoor; dsimp only; repeat' split
  all_goals simp
@[simp] theorem blank_clearFaultAt : (clearFaultAt d s).blank d = s.blank d := by
  unfold clearFaultAt; dsimp only; split <;> simp
@[simp] theorem blank_takeRunEntry : (takeRunEntry d s).blank d = s.blank d := by
  unfold takeRunEntry; dsimp only; repeat' split
  all_goals simp

end Events

end Sys2Proof.Machine
end

