-- ==== Sys2Proof/Laws/Demand.lean ====
section
/-! SUPPORT. R41, R42, R46: the record of a doorway stays the one that the table gives, through every
operation of its channel, and a recomputation makes it so. -/

namespace Sys2Proof.Machine

/-- The record of a fitted doorway is the one that the table and the referenced flag give. -/
def State.fresh (s : State) (d : Door) : Prop := s.fitted d = true → s.demand d = s.resolve d

/-- R46: the record is a function of the table, the configuration and the referenced flag. -/
theorem State.resolve_congr {s t : State} (d : Door) (h : t.bare = s.bare)
    (hr : (t.chan d).referenced = (s.chan d).referenced) : t.resolve d = s.resolve d := by
  have h1 : t.holdsOver d = s.holdsOver d := by simp [State.holdsOver, State.slots_of_bare h]
  have h2 : t.released d = s.released d := by
    simp [State.released, State.hold_of_bare h, State.cfg_of_bare h, h1]
  unfold State.resolve
  rw [h1, h2, hr, State.cfg_of_bare h]

/-- A doorway whose record and flag stand keeps a fresh record. -/
theorem State.fresh_of_same {s t : State} {d : Door} (h : t.bare = s.bare)
    (hd : t.demand d = s.demand d) (hr : (t.chan d).referenced = (s.chan d).referenced)
    (hs : s.fresh d) : t.fresh d := by
  intro hf
  rw [hd, State.resolve_congr d h hr]
  exact hs (by rw [← State.fitted_of_bare h]; exact hf)

section Updates
variable {d : Door} {s : State}

@[simp] theorem fresh_modGuard (f : Guard → Guard) : (s.modGuard d f).fresh d ↔ s.fresh d := Iff.rfl
@[simp] theorem fresh_send (c : Instr) : (s.send c).fresh d ↔ s.fresh d := Iff.rfl
@[simp] theorem fresh_dropGrd : (s.dropGrd d).fresh d ↔ s.fresh d := Iff.rfl
@[simp] theorem fresh_raiseDoor (k : NoticeKind) (e : Door) : (s.raiseDoor k e).fresh d ↔ s.fresh d := Iff.rfl

/-- A change of the channel that leaves the referenced flag keeps the record fresh. -/
@[simp] theorem fresh_modChan (f : Channel → Channel) (hf : ∀ c, (f c).referenced = c.referenced) (h : s.fresh d) :
    (s.modChan d f).fresh d :=
  State.fresh_of_same (State.bare_of_blank (State.blank_modChan d s f)) rfl (by simp [hf]) h

@[simp] theorem fresh_setDemand_resolve : (s.setDemand d (s.resolve d)).fresh d := by
  intro _
  rw [State.demand_setDemand]
  exact (State.resolve_congr d (State.bare_of_blank (State.blank_setDemand d s _)) rfl).symm

end Updates

/-- The parts of an entry leave the referenced flag alone. -/
@[simp] theorem Channel.referenced_rest (c : Channel) (st : ChState) (dr : Drive) (sol : Bool) (lamp : Lamp) :
    (c.rest st dr sol lamp).referenced = c.referenced := rfl
@[simp] theorem Channel.referenced_setPos (c : Channel) (p : Position) :
    (c.setPos p).referenced = c.referenced := rfl
@[simp] theorem Channel.referenced_openProfile (c : Channel) (cfg : Image) (d : Door) (sl : Bool) :
    (c.openProfile cfg d sl).referenced = c.referenced := rfl
@[simp] theorem Channel.referenced_closeProfile (c : Channel) (cfg : Image) (d : Door) (sl : Bool) :
    (c.closeProfile cfg d sl).referenced = c.referenced := rfl

section Channel
variable {d : Door} {s : State}

@[simp] theorem fresh_enterState (st : ChState) (dr : Drive) (sol : Bool) (lamp : Lamp) (h : s.fresh d) :
    (enterState d st dr sol lamp s).fresh d :=
  (fresh_modGuard _).mpr (fresh_modChan _ (fun _ => rfl) h)
@[simp] theorem fresh_clearReferenced (h : s.fresh d) : (clearReferenced d s).fresh d := by
  unfold clearReferenced; dsimp only
  split
  · exact fresh_setDemand_resolve
  · rename_i hn
    intro hf
    have hf' : s.fitted d = true := hf
    have hr : (s.chan d).referenced = false := by
      cases hc : (s.chan d).referenced
      · rfl
      · exact absurd (by rw [hc, hf']; rfl) hn
    exact State.fresh_of_same (State.bare_of_blank (State.blank_modChan d s _)) rfl
      (by simp (maxDischargeDepth := 12) [hr]) h hf
@[simp] theorem fresh_enterFaulted (h : s.fresh d) : (enterFaulted d s).fresh d := by
  simp (maxDischargeDepth := 12) [enterFaulted, h]
@[simp] theorem fresh_detectCause (f : FaultCause) (h : s.fresh d) : (detectCause d f s).fresh d := by
  unfold detectCause; dsimp only; split <;> simp (maxDischargeDepth := 12) [h]
@[simp] theorem fresh_bridgeCheck (h : s.fresh d) : (bridgeCheck d s).fresh d := by
  unfold bridgeCheck; split <;> simp (maxDischargeDepth := 12) [h]
@[simp] theorem fresh_startPlaus (h : s.fresh d) : (startPlaus d s).fresh d := by
  unfold startPlaus; split <;> simp (maxDischargeDepth := 12) [h]
@[simp] theorem fresh_enterOpen (h : s.fresh d) : (enterOpen d s).fresh d := by
  simp (maxDischargeDepth := 12) [enterOpen, h]
@[simp] theorem fresh_openingObstruction (h : s.fresh d) : (openingObstruction d s).fresh d := by
  unfold openingObstruction; dsimp only; split <;> simp (maxDischargeDepth := 12) [h]
@[simp] theorem fresh_beginOpening (sl : Bool) (h : s.fresh d) : (beginOpening d sl s).fresh d := by
  unfold beginOpening; dsimp only; split <;> simp (maxDischargeDepth := 12) [h]
@[simp] theorem fresh_openByPosition (h : s.fresh d) : (openByPosition d s).fresh d := by
  unfold openByPosition; dsimp only; repeat' split
  all_goals simp (maxDischargeDepth := 12) [h]
@[simp] theorem fresh_enterUnlocking (h : s.fresh d) : (enterUnlocking d s).fresh d := by
  unfold enterUnlocking; dsimp only; split <;> simp (maxDischargeDepth := 12) [h]
@[simp] theorem fresh_enterLocked (h : s.fresh d) : (enterLocked d s).fresh d :=
  (fresh_modGuard _).mpr (fresh_modChan _ (fun _ => rfl) (fresh_enterState _ _ _ _ h))
@[simp] theorem fresh_enterLocking (h : s.fresh d) : (enterLocking d s).fresh d := by
  unfold enterLocking; dsimp only; split <;> simp (maxDischargeDepth := 12) [h]
@[simp] theorem fresh_enterReseat (h : s.fresh d) : (enterReseat d s).fresh d := by
  simp (maxDischargeDepth := 12) [enterReseat, h]
/-- R42: the flag set and the record recomputed are one event, whatever the record was. -/
@[simp] theorem fresh_takeReference (press : Bool) : (takeReference d press s).fresh d := by
  unfold takeReference; dsimp only
  generalize (if press = true then _ else _ : State) = s2
  repeat' split
  · rename_i h
    exact fun _ => h.symm
  all_goals simp (maxDischargeDepth := 12)
@[simp] theorem fresh_enterWarning (h : s.fresh d) : (enterWarning d s).fresh d := by
  simp (maxDischargeDepth := 12) [enterWarning, h]
@[simp] theorem fresh_enterStopping (h : s.fresh d) : (enterStopping d s).fresh d := by
  simp (maxDischargeDepth := 12) [enterStopping, h]
@[simp] theorem fresh_enterStanding (h : s.fresh d) : (enterStanding d s).fresh d := by
  simp (maxDischargeDepth := 12) [enterStanding, h]
@[simp] theorem fresh_enterEgress (h : s.fresh d) : (enterEgress d s).fresh d := by
  simp (maxDischargeDepth := 12) [enterEgress, h]
@[simp] theorem fresh_endRelief (h : s.fresh d) : (endRelief d s).fresh d := by
  unfold endRelief; repeat' split
  all_goals simp (maxDischargeDepth := 12) [h]
@[simp] theorem fresh_enterRelief (h : s.fresh d) : (enterRelief d s).fresh d := by
  unfold enterRelief; dsimp only; split <;> simp (maxDischargeDepth := 12) [h]
@[simp] theorem fresh_closingDetection (c : ObsCause) (h : s.fresh d) : (closingDetection d c s).fresh d := by
  unfold closingDetection; dsimp only; split <;> simp (maxDischargeDepth := 12) [h]
@[simp] theorem fresh_forceDetection (h : s.fresh d) : (forceDetection d s).fresh d := by
  unfold forceDetection; split <;> simp (maxDischargeDepth := 12) [h]
@[simp] theorem fresh_senseAtStart (h : s.fresh d) : (senseAtStart d s).fresh d := by
  unfold senseAtStart; repeat' split
  all_goals simp (maxDischargeDepth := 12) [h]
@[simp] theorem fresh_beginClosing (h : s.fresh d) : (beginClosing d s).fresh d := by
  unfold beginClosing; dsimp only; split <;> simp (maxDischargeDepth := 12) [h]
@[simp] theorem fresh_endReferencing : (endReferencing d s).fresh d := by
  simp (maxDischargeDepth := 12) [endReferencing]
@[simp] theorem fresh_enterReferencing (h : s.fresh d) : (enterReferencing d s).fresh d := by
  unfold enterReferencing; dsimp only; repeat' split
  all_goals simp (maxDischargeDepth := 12) [h]
@[simp] theorem fresh_actUnreferenced (h : s.fresh d) : (actUnreferenced d s).fresh d := by
  unfold actUnreferenced; dsimp only; repeat' split
  all_goals simp (maxDischargeDepth := 12) [h]
@[simp] theorem fresh_enterUnreferenced (h : s.fresh d) : (enterUnreferenced d s).fresh d := by
  unfold enterUnreferenced; dsimp only; repeat' split
  all_goals simp (maxDischargeDepth := 12) [h]
@[simp] theorem fresh_exitEgress (h : s.fresh d) : (exitEgress d s).fresh d := by
  unfold exitEgress; dsimp only; repeat' split
  all_goals simp (maxDischargeDepth := 12) [h]
@[simp] theorem fresh_reactOpen (h : s.fresh d) : (reactOpen d s).fresh d := by
  unfold reactOpen; dsimp only; repeat' split
  all_goals simp (maxDischargeDepth := 12) [h]
@[simp] theorem fresh_reactSlideOpen (h : s.fresh d) : (reactSlideOpen d s).fresh d := by
  unfold reactSlideOpen; repeat' split
  all_goals simp (maxDischargeDepth := 12) [h]
@[simp] theorem fresh_reactOpenBlocked (h : s.fresh d) : (reactOpenBlocked d s).fresh d := by
  unfold reactOpenBlocked; repeat' split
  all_goals simp (maxDischargeDepth := 12) [h]
@[simp] theorem fresh_reactToOpen (h : s.fresh d) : (reactToOpen d s).fresh d := by
  unfold reactToOpen; split <;> simp (maxDischargeDepth := 12) [h]
@[simp] theorem fresh_reactToClose (h : s.fresh d) : (reactToClose d s).fresh d := by
  unfold reactToClose; split <;> simp (maxDischargeDepth := 12) [h]
@[simp] theorem fresh_reactWarningUnreferenced (h : s.fresh d) : (reactWarningUnreferenced d s).fresh d := by
  unfold reactWarningUnreferenced; dsimp only; split <;> simp (maxDischargeDepth := 12) [h]
@[simp] theorem fresh_react (old : Demand) (h : s.fresh d) : (react d old s).fresh d := by
  unfold react; dsimp only; repeat' split
  all_goals simp (maxDischargeDepth := 12) [h]
theorem fresh_atChannel (f : State → State) (h : (f s).fresh d) : (atChannel d f s).fresh d := by
  unfold atChannel; dsimp only; split <;> simp (maxDischargeDepth := 12) [h]

/-- R41: a recomputation leaves the doorway's record fresh. -/
@[simp] theorem fresh_recomputeDoor : (recomputeDoor d s).fresh d := by
  unfold recomputeDoor; dsimp only
  repeat' split
  · rename_i hu
    intro hf
    rw [hf] at hu
    cases hu
  · rename_i h
    exact fun _ => h.symm
  · exact fresh_atChannel _ (by simp)

end Channel

/-! ### Recomputation of a scope -/

/-- The recomputation of one doorway leaves every other record as fresh as it was. -/
theorem fresh_recomputeDoor_ne {d e : Door} {s : State} (he : e ≠ d) (h : s.fresh e) :
    (recomputeDoor d s).fresh e := by
  have hb := blank_recomputeDoor d s
  exact State.fresh_of_same (State.bare_of_blank hb) (State.demand_of_blank hb he)
    (by rw [State.chan_of_blank hb he]) h

theorem fresh_recomputeList (sc : DoorSet) (ds : List Door) (s : State) (e : Door)
    (h : (e ∈ ds ∧ has sc e = true) ∨ s.fresh e) :
    (ds.foldl (fun s d => if has sc d then recomputeDoor d s else s) s).fresh e := by
  induction ds generalizing s with
  | nil =>
    rcases h with h | h
    · exact absurd h.1 (by simp)
    · exact h
  | cons d ds ih =>
    rw [List.foldl_cons]
    apply ih
    by_cases hed : e = d
    · subst hed
      by_cases hs : has sc e = true
      · right; rw [if_pos hs]; exact fresh_recomputeDoor
      · rcases h with h | h
        · exact absurd h.2 hs
        · right; rw [if_neg hs]; exact h
    · rcases h with h | h
      · left
        refine ⟨?_, h.2⟩
        rcases List.mem_cons.mp h.1 with h1 | h1
        · exact absurd h1 hed
        · exact h1
      · right
        split
        · exact fresh_recomputeDoor_ne hed h
        · exact h

theorem mem_doors (d : Door) : d ∈ doors := by revert d; decide

/-- R41, R44: after a recomputation of a scope every doorway of it has the record that the table gives. -/
theorem fresh_recompute (sc : DoorSet) (s : State) (d : Door) (h : has sc d = true) :
    (recompute sc s).fresh d :=
  fresh_recomputeList sc doors s d (Or.inl ⟨mem_doors d, h⟩)

/-- A record that was fresh stays fresh. -/
theorem fresh_recompute_of (sc : DoorSet) (s : State) (d : Door) (h : s.fresh d) : (recompute sc s).fresh d :=
  fresh_recomputeList sc doors s d (Or.inr h)

end Sys2Proof.Machine
end

