-- ==== Sys2Proof/Laws/Agree.lean ====
section
/-! SUPPORT. R41, R44: the recomputation of one doorway reads its own doorway alone, so the order of the doorways of
a scope does not matter: each ends as its own recomputation from the table leaves it. -/

namespace Sys2Proof.Machine

/-- Two states agree on all that doorway d reads, and on what it has sent. -/
structure Agree (d : Door) (s t : State) : Prop where
  chan : t.chan d = s.chan d
  guard : t.guard d = s.guard d
  demand : t.demand d = s.demand d
  cfg : t.cfg = s.cfg
  slots : t.slots = s.slots
  lines : t.lines = s.lines
  mode : t.mode = s.mode
  entry : t.sent.contains (.channelRunEntry d) = s.sent.contains (.channelRunEntry d)
  sends : t.sent.filter (sentFrom d) = s.sent.filter (sentFrom d)

namespace Agree
variable {d : Door} {s t u : State}

theorem refl (d : Door) (s : State) : Agree d s s := ⟨rfl, rfl, rfl, rfl, rfl, rfl, rfl, rfl, rfl⟩

theorem trans (h : Agree d s t) (k : Agree d t u) : Agree d s u :=
  ⟨k.chan.trans h.chan, k.guard.trans h.guard, k.demand.trans h.demand, k.cfg.trans h.cfg, k.slots.trans h.slots,
    k.lines.trans h.lines, k.mode.trans h.mode, k.entry.trans h.entry, k.sends.trans h.sends⟩

theorem ite {p : Prop} [Decidable p] {a b a' b' : State} (h : Agree d a b) (k : Agree d a' b') :
    Agree d (if p then a else a') (if p then b else b') := by
  split
  · exact h
  · exact k

/-! ### What follows from the parts -/

theorem fitted (h : Agree d s t) (e : Door) : t.fitted e = s.fitted e := by simp [State.fitted, h.cfg]
theorem asserted (h : Agree d s t) (l : Line) : t.asserted l = s.asserted l := by
  simp [State.asserted, State.isActive, State.filter, h.cfg, h.lines]
theorem bothMade (h : Agree d s t) : t.bothMade d = s.bothMade d := by simp [State.bothMade, h.asserted]
theorem chanInRun (h : Agree d s t) : t.chanInRun d = s.chanInRun d := by
  unfold State.chanInRun; rw [h.mode, h.fitted, h.entry]
theorem resolve (h : Agree d s t) : t.resolve d = s.resolve d := by
  have h0 : ∀ i, t.hold i = s.hold i := fun i => by simp [State.hold, State.slot, h.slots]
  have h1 : t.holdsOver d = s.holdsOver d := by simp [State.holdsOver, h.slots]
  have h2 : t.released d = s.released d := by simp [State.released, h0, h.cfg, h1]
  unfold State.resolve
  rw [h1, h2, h.chan, h.cfg]

/-! ### The named updates -/

theorem modChan (h : Agree d s t) (f : Channel → Channel) : Agree d (s.modChan d f) (t.modChan d f) :=
  ⟨by simp [h.chan], by simpa using h.guard, by simpa using h.demand, h.cfg, h.slots, h.lines, h.mode, h.entry, h.sends⟩
theorem modGuard (h : Agree d s t) (f : Guard → Guard) : Agree d (s.modGuard d f) (t.modGuard d f) :=
  ⟨by simpa using h.chan, by simp [h.guard], by simpa using h.demand, h.cfg, h.slots, h.lines, h.mode, h.entry, h.sends⟩
theorem setDemand (h : Agree d s t) (r : Demand) : Agree d (s.setDemand d r) (t.setDemand d r) :=
  ⟨by simpa using h.chan, by simpa using h.guard, by simp, h.cfg, h.slots, h.lines, h.mode, h.entry, h.sends⟩
theorem send (h : Agree d s t) (c : Instr) : Agree d (s.send c) (t.send c) :=
  ⟨h.chan, h.guard, h.demand, h.cfg, h.slots, h.lines, h.mode,
    by simp only [State.send, List.contains_append, h.entry],
    by simp only [State.send, List.filter_append, h.sends]⟩
theorem raiseDoor (h : Agree d s t) (k : NoticeKind) (e : Door) : Agree d (s.raiseDoor k e) (t.raiseDoor k e) :=
  ⟨h.chan, h.guard, h.demand, h.cfg, h.slots, h.lines, h.mode, h.entry, h.sends⟩

/-- No doorway reads a port, a chime or the epoch cell. -/
theorem settle (h : Agree d s t) : Agree d s t.settle :=
  ⟨h.chan, h.guard, h.demand, h.cfg, h.slots, h.lines, h.mode, h.entry, h.sends⟩
theorem modPort (h : Agree d s t) (p : Port) (f : PortState → PortState) : Agree d s (t.modPort p f) := by
  cases p <;> exact ⟨h.chan, h.guard, h.demand, h.cfg, h.slots, h.lines, h.mode, h.entry, h.sends⟩
/-- The table as another state has it. -/
theorem setSlots (h : Agree d s t) (l : Vector Slot 64) : Agree d { s with slots := l } { t with slots := l } :=
  ⟨h.chan, h.guard, h.demand, h.cfg, rfl, h.lines, h.mode, h.entry, h.sends⟩

/-- The GRD placements dropped are none of them the entry into RUN. -/
theorem contains_dropGrd (d : Door) (s : State) :
    (s.dropGrd d).sent.contains (.channelRunEntry d) = s.sent.contains (.channelRunEntry d) := by
  rw [Bool.eq_iff_iff]
  simp [State.dropGrd, isGrdPlacement, route]

theorem dropGrd (h : Agree d s t) : Agree d (s.dropGrd d) (t.dropGrd d) :=
  ⟨h.chan, h.guard, h.demand, h.cfg, h.slots, h.lines, h.mode,
    by rw [contains_dropGrd, contains_dropGrd, h.entry],
    by
      have hc : ∀ l : List Instr, (l.filter (fun c => !isGrdPlacement d c)).filter (sentFrom d) =
          (l.filter (sentFrom d)).filter (fun c => !isGrdPlacement d c) := fun l => by
        simp only [List.filter_filter, Bool.and_comm]
      simp only [State.dropGrd, hc, h.sends]⟩

/-! ### The operations of a channel that a record can reach -/

theorem enterState (h : Agree d s t) (st : ChState) (dr : Drive) (sol : Bool) (lamp : Lamp) :
    Agree d (enterState d st dr sol lamp s) (enterState d st dr sol lamp t) :=
  (h.modChan _).modGuard _

theorem clearReferenced (h : Agree d s t) : Agree d (clearReferenced d s) (clearReferenced d t) := by
  have h1 := h.modChan (fun c => { c with referenced := false })
  simp only [Machine.clearReferenced, h.chan, h.fitted, h1.resolve]
  exact .ite (h1.setDemand _) h1

theorem enterFaulted (h : Agree d s t) : Agree d (enterFaulted d s) (enterFaulted d t) :=
  ((((h.enterState .faulted .free false .off).clearReferenced).dropGrd).send _).raiseDoor _ _

theorem detectCause (h : Agree d s t) (f : FaultCause) : Agree d (detectCause d f s) (detectCause d f t) := by
  have h1 := (h.modChan (fun c => { c with fault := some (recordCause c f) })).raiseDoor .fault d
  simp only [Machine.detectCause, h.chan]
  exact .ite h1 h1.enterFaulted

theorem bridgeCheck (h : Agree d s t) : Agree d (bridgeCheck d s) (bridgeCheck d t) := by
  simp only [Machine.bridgeCheck, h.chan, h.asserted]
  exact .ite (h.detectCause _) h

theorem startPlaus (h : Agree d s t) : Agree d (startPlaus d s) (startPlaus d t) := by
  simp only [Machine.startPlaus, h.chan, h.asserted]
  exact .ite (h.modChan _) h

theorem enterOpen (h : Agree d s t) : Agree d (enterOpen d s) (enterOpen d t) := by
  simp only [Machine.enterOpen, h.demand]
  exact (((h.enterState .isOpen .brake false .off).modGuard _).send _).bridgeCheck

theorem openingObstruction (h : Agree d s t) : Agree d (openingObstruction d s) (openingObstruction d t) := by
  simp only [Machine.openingObstruction, h.guard, h.cfg]
  have h1 := h.enterState .openBlocked .brake false .off
  exact bridgeCheck (.ite ((h1.modGuard _).modChan _) ((((h1.modGuard _).modGuard _).raiseDoor _ _).send _))

theorem beginOpening (h : Agree d s t) (slide : Bool) : Agree d (beginOpening d slide s) (beginOpening d slide t) := by
  have h2 := (((h.enterState .plugOut .free false .off).modChan (fun c =>
    { c.openProfile s.cfg d slide with travel := some (.opening, s.cfg.travelOpen d) })).modGuard
      (·.beginMotion (s.cfg.stallInterval d))).bridgeCheck
  simp only [Machine.beginOpening, h.cfg, h2.asserted, h2.chan]
  exact .ite h2.openingObstruction h2

theorem openByPosition (h : Agree d s t) : Agree d (openByPosition d s) (openByPosition d t) := by
  simp only [Machine.openByPosition, h.chan, h.demand, h.cfg]
  split
  · exact h
  · exact .ite h.enterOpen (h.beginOpening _)

theorem enterUnlocking (h : Agree d s t) : Agree d (enterUnlocking d s) (enterUnlocking d t) := by
  have h1 := ((h.enterState .unlocking .brake true .off).modChan
    (fun c => { c with unlock := some (.first, s.cfg.unlockTime d) })).bridgeCheck
  simp only [Machine.enterUnlocking, h.cfg, h1.chan, h1.asserted]
  exact .ite (h1.beginOpening _) h1

theorem enterLocked (h : Agree d s t) : Agree d (enterLocked d s) (enterLocked d t) :=
  ((h.enterState .locked .free false .off).modChan _).modGuard _

theorem enterLocking (h : Agree d s t) : Agree d (enterLocking d s) (enterLocking d t) := by
  have h1 := ((h.enterState .locking (.driveClose (s.cfg.pressLevel d)) false .on).modChan
    (fun c => { c with lockWait := some (s.cfg.lockTime d) })).bridgeCheck
  simp only [Machine.enterLocking, h.cfg, h1.chan, h1.asserted]
  exact .ite h1.enterLocked h1

theorem takeReference (h : Agree d s t) (press : Bool) : Agree d (takeReference d press s) (takeReference d press t) := by
  have h1 := (h.modChan (fun c => { c.setPos 0 with referenced := true })).modGuard Guard.zeroRetry
  have h2 : Agree d (if press then Machine.enterLocking d _ else Machine.enterLocked d _)
    (if press then Machine.enterLocking d _ else Machine.enterLocked d _) := .ite h1.enterLocking h1.enterLocked
  have h3 := fun r => (h2.setDemand r).chan
  simp only [Machine.takeReference, h2.resolve, h2.demand, h3]
  have h4 := h2.setDemand
  exact .ite h2 (.ite (.ite (h4 _).enterUnlocking (.ite ((h4 _).beginOpening _) (h4 _))) (h4 _))

theorem enterWarning (h : Agree d s t) : Agree d (enterWarning d s) (enterWarning d t) := by
  simp only [Machine.enterWarning, h.guard, h.cfg]
  exact ((h.enterState .warning .brake false (.flashing true)).modChan _).bridgeCheck

theorem enterStopping (h : Agree d s t) : Agree d (enterStopping d s) (enterStopping d t) := by
  simp only [Machine.enterStopping, h.cfg]
  exact ((h.enterState .stopping .brake false .off).modChan _).bridgeCheck

theorem enterEgress (h : Agree d s t) : Agree d (enterEgress d s) (enterEgress d t) :=
  ((((h.enterState .egress .free true .off).modChan _).clearReferenced).dropGrd).send _

theorem actUnreferenced (h : Agree d s t) : Agree d (actUnreferenced d s) (actUnreferenced d t) := by
  simp only [Machine.actUnreferenced, h.demand]
  split
  · exact h.enterEgress
  · exact h
  · exact .ite h h.enterWarning
  · exact .ite h h.enterWarning

theorem enterUnreferenced (h : Agree d s t) : Agree d (enterUnreferenced d s) (enterUnreferenced d t) := by
  have h1 := h.enterState .unreferenced .free false .off
  simp only [Machine.enterUnreferenced, h1.chanInRun, h1.bothMade]
  exact .ite h1 (.ite (h1.takeReference _) h1.actUnreferenced)

theorem exitEgress (h : Agree d s t) : Agree d (exitEgress d s) (exitEgress d t) := by
  have h1 := h.enterState .unreferenced .free false .off
  have h2 := ite (p := (Machine.enterState d .unreferenced .free false .off s).chanInRun d = true) h1.startPlaus h1
  simp only [Machine.exitEgress, h1.chanInRun, h2.chan]
  exact .ite h2.enterFaulted h2.enterUnreferenced

/-! ### The reaction to a record -/

theorem reactOpen (h : Agree d s t) : Agree d (reactOpen d s) (reactOpen d t) := by
  simp only [Machine.reactOpen, h.chan, h.demand, h.cfg]
  split
  · exact h
  · exact .ite (h.beginOpening _) h

theorem reactSlideOpen (h : Agree d s t) : Agree d (reactSlideOpen d s) (reactSlideOpen d t) := by
  simp only [Machine.reactSlideOpen, h.chan, h.demand]
  split
  · exact h
  · exact .ite h.enterOpen h

theorem reactOpenBlocked (h : Agree d s t) : Agree d (reactOpenBlocked d s) (reactOpenBlocked d t) := by
  simp only [Machine.reactOpenBlocked, h.chan, h.demand, h.cfg]
  split
  · exact h
  · exact .ite h.enterOpen h

theorem reactToOpen (h : Agree d s t) : Agree d (reactToOpen d s) (reactToOpen d t) := by
  simp only [Machine.reactToOpen, h.chan]
  split <;> with_reducible first
    | exact h | exact h.enterUnlocking | exact h.reactSlideOpen | exact h.reactOpen | exact h.reactOpenBlocked
    | exact h.openByPosition | exact h.enterStopping | exact h.beginOpening _

theorem reactToClose (h : Agree d s t) : Agree d (reactToClose d s) (reactToClose d t) := by
  simp only [Machine.reactToClose, h.chan]
  split <;> with_reducible first
    | exact h | exact h.enterLocked | exact h.enterStopping | exact h.enterWarning | exact (h.modGuard _).enterWarning

theorem reactWarningUnreferenced (h : Agree d s t) :
    Agree d (reactWarningUnreferenced d s) (reactWarningUnreferenced d t) := by
  simp only [Machine.reactWarningUnreferenced, h.demand]
  exact .ite h.enterUnreferenced h

theorem react (h : Agree d s t) (old : Demand) : Agree d (react d old s) (react d old t) := by
  simp only [Machine.react, h.demand, h.chan, h.chanInRun]
  exact .ite h (.ite (.ite h h.enterEgress) (.ite h.exitEgress (.ite h (.ite h.actUnreferenced
    (.ite h.reactWarningUnreferenced (.ite h (.ite h.reactToOpen h.reactToClose)))))))

theorem recomputeDoor (h : Agree d s t) : Agree d (recomputeDoor d s) (recomputeDoor d t) := by
  have h0 := h.setDemand (s.resolve d)
  have h1 := h0.react (s.demand d)
  simp only [Machine.recomputeDoor, h.fitted, h.demand, h.resolve, Machine.atChannel, h1.chan, h0.chan]
  exact .ite h (.ite h (.ite h1 (h1.send _)))

end Agree

/-! ### What the recomputation of another doorway leaves -/

theorem sent_of_blank {d : Door} {s t : State} (h : t.blank d = s.blank d) :
    t.sent.filter (fun e => !sentFrom d e) = s.sent.filter (fun e => !sentFrom d e) :=
  congrArg State.sent h

/-- What one doorway writes, another does not read. -/
theorem agree_of_blank {d e : Door} {s t : State} (h : t.blank e = s.blank e) (hd : d ≠ e) : Agree d s t := by
  have hb := State.bare_of_blank h
  have hs := sent_of_blank h
  have hf : ∀ l : List Instr, l.filter (sentFrom d) = (l.filter (fun c => !sentFrom e c)).filter (sentFrom d) := fun l => by
    rw [List.filter_filter]
    refine List.filter_congr (fun c _ => ?_)
    by_cases hc : sentFrom d c = true
    · simp [hc, not_sentFrom_of_ne hd hc]
    · simp [hc]
  have hc : ∀ l : List Instr, l.contains (.channelRunEntry d) =
      (l.filter (fun c => !sentFrom e c)).contains (.channelRunEntry d) := fun l => by
    rw [Bool.eq_iff_iff]
    simp [sentFrom, route]
  exact ⟨State.chan_of_blank h hd, State.guard_of_blank h hd, State.demand_of_blank h hd, State.cfg_of_bare hb,
    State.slots_of_bare hb, State.lines_of_bare hb, State.mode_of_bare hb,
    by rw [hc t.sent, hs, ← hc], by rw [hf t.sent, hs, ← hf]⟩

/-- A fold of recomputations over distinct doorways: each one named ends as its own recomputation leaves it. -/
theorem agree_recomputeList (sc : DoorSet) (ds : List Door) (hn : ds.Nodup) (s : State) (d : Door) :
    let t := ds.foldl (fun s e => if has sc e then recomputeDoor e s else s) s
    (d ∈ ds ∧ has sc d = true → Agree d (recomputeDoor d s) t) ∧
    (¬ (d ∈ ds ∧ has sc d = true) → Agree d s t) := by
  induction ds generalizing s with
  | nil => exact ⟨fun h => absurd h.1 (by simp), fun _ => .refl d s⟩
  | cons e ds ih =>
    obtain ⟨he, hn⟩ := List.nodup_cons.mp hn
    simp only [List.foldl_cons, List.mem_cons]
    obtain ⟨i1, i2⟩ := ih hn (if has sc e then recomputeDoor e s else s)
    by_cases hde : d = e
    · subst hde
      have h2 := i2 (fun h => he h.1)
      refine ⟨fun h => ?_, fun h => ?_⟩
      · simpa [h.2] using h2
      · have hsc : has sc d ≠ true := fun hsc => h ⟨.inl rfl, hsc⟩
        simpa [hsc] using h2
    · have h0 : Agree d s (if has sc e then recomputeDoor e s else s) := by
        split
        · exact agree_of_blank (blank_recomputeDoor e s) hde
        · exact .refl d s
      refine ⟨fun h => ?_, fun h => ?_⟩
      · exact (h0.recomputeDoor).trans (i1 ⟨h.1.resolve_left hde, h.2⟩)
      · exact h0.trans (i2 (fun k => h ⟨.inr k.1, k.2⟩))

theorem nodup_doors : doors.Nodup := by decide

/-- R41, R44: a doorway of the scope ends, after the recomputation of the scope, as its own recomputation leaves it. -/
theorem agree_recompute (sc : DoorSet) (s : State) (d : Door) (h : has sc d = true) :
    Agree d (recomputeDoor d s) (recompute sc s) :=
  (agree_recomputeList sc doors nodup_doors s d).1 ⟨mem_doors d, h⟩

/-- R44: a doorway outside the scope stands. -/
theorem agree_recompute_outside (sc : DoorSet) (s : State) (d : Door) (h : has sc d = false) :
    Agree d s (recompute sc s) :=
  (agree_recomputeList sc doors nodup_doors s d).2 (fun k => by rw [h] at k; cases k.2)

/-- What no doorway sends stands in a recomputation. -/
theorem sent_recompute (sc : DoorSet) (s : State) :
    (recompute sc s).sent.filter (fun e => !doors.any (fun d => sentFrom d e)) =
      s.sent.filter (fun e => !doors.any (fun d => sentFrom d e)) := by
  have hf : ∀ (d : Door) (l : List Instr), l.filter (fun e => !doors.any (fun d => sentFrom d e)) =
      (l.filter (fun e => !sentFrom d e)).filter (fun e => !doors.any (fun d => sentFrom d e)) := fun d l => by
    rw [List.filter_filter]
    refine List.filter_congr (fun c _ => ?_)
    by_cases hc : sentFrom d c = true
    · have ha : doors.any (fun d => sentFrom d c) = true := List.any_eq_true.mpr ⟨d, mem_doors d, hc⟩
      simp [ha]
    · simp [hc]
  have hl : ∀ (ds : List Door) (s : State),
      (ds.foldl (fun s e => if has sc e then recomputeDoor e s else s) s).sent.filter
        (fun e => !doors.any (fun d => sentFrom d e)) = s.sent.filter (fun e => !doors.any (fun d => sentFrom d e)) := by
    intro ds
    induction ds with
    | nil => intro s; rfl
    | cons d ds ih =>
      intro s
      rw [List.foldl_cons, ih]
      split
      · rw [hf d, sent_of_blank (blank_recomputeDoor d s), ← hf d]
      · rfl
  exact hl doors s

end Sys2Proof.Machine
end

