-- ==== Sys2Proof/Laws/Table.lean ====
section
/-! SUPPORT. What the Hold Table's operations do to a slot, and what they leave alone. -/

namespace Sys2Proof.Machine

/-! ### Slots -/

theorem State.slot_setSlot_any (s : State) (i j : SlotNo) (x : Slot) :
    (s.setSlot i x).slot j = if j = i then x else s.slot j := by
  by_cases h : j = i
  · subst h; simp [State.slot, State.setSlot]
  · simp [State.slot, State.setSlot, h, Fin.val_inj, Ne.symm h]

theorem State.slot_raiseOn (s : State) (p : Port) (k : NoticeKind) (j : SlotNo) :
    (s.raiseOn p k).slot j = s.slot j := by
  cases p <;> rfl

/-- R18: the slot of a hold that is retired. -/
def Slot.retired (x : Slot) (h : Hold) (r : Reason) (told : Bool) : Slot :=
  { hold := none, generation := x.generation + 1#8, lastReason := some r
    mark := if told then some h.issuer else x.mark }

/-- R18: one retirement writes its own slot and no other; a free slot stays. -/
theorem State.slot_retireSlot (s : State) (i j : SlotNo) (r : Reason) (own : Bool) :
    (s.retireSlot i r own).slot j =
      if j = i then
        match s.hold i with
        | some h => (s.slot i).retired h r (isPool i && !own)
        | none => s.slot i
      else s.slot j := by
  unfold State.retireSlot
  cases hh : s.hold i with
  | none => by_cases hj : j = i <;> simp [hj]
  | some h =>
    dsimp only
    split
    · rename_i ht
      rw [State.slot_raiseOn, State.slot_setSlot_any]
      simp [Slot.retired, ht]
    · rename_i ht
      rw [State.slot_setSlot_any]
      simp [Slot.retired, ht]

/-- The fields that a retirement leaves alone: everything but the slots and the notices. -/
def State.noSlots (s : State) : State :=
  { s with slots := .replicate 64 .start, portT := s.portT.blank, portS := s.portS.blank }

theorem State.noSlots_setSlot (s : State) (i : SlotNo) (x : Slot) : (s.setSlot i x).noSlots = s.noSlots := rfl

theorem State.noSlots_raiseOn (s : State) (p : Port) (k : NoticeKind) : (s.raiseOn p k).noSlots = s.noSlots := by
  cases p <;> rfl

@[simp] theorem State.noSlots_retireSlot (s : State) (i : SlotNo) (r : Reason) (own : Bool) :
    (s.retireSlot i r own).noSlots = s.noSlots := by
  unfold State.retireSlot
  split
  · rfl
  · dsimp only
    split
    · rw [State.noSlots_raiseOn, State.noSlots_setSlot]
    · rw [State.noSlots_setSlot]

@[simp] theorem State.noSlots_retireSlots (s : State) (is : List SlotNo) (r : Reason) (own : Bool) :
    (s.retireSlots is r own).noSlots = s.noSlots := by
  unfold State.retireSlots
  induction is generalizing s with
  | nil => rfl
  | cons i is ih => rw [List.foldl_cons, ih, State.noSlots_retireSlot]

/-- A slot that is not among those retired stays. -/
theorem State.slot_retireSlots_of_not_mem (s : State) (is : List SlotNo) (r : Reason) (own : Bool) (j : SlotNo)
    (hj : j ∉ is) : (s.retireSlots is r own).slot j = s.slot j := by
  unfold State.retireSlots
  induction is generalizing s with
  | nil => rfl
  | cons i is ih =>
    rw [List.foldl_cons, ih _ (fun h => hj (List.mem_cons_of_mem i h)), State.slot_retireSlot]
    simp [show j ≠ i from fun h => hj (h ▸ List.mem_cons_self)]

/-- R18: among slots retired together, each hold is retired once. -/
theorem State.slot_retireSlots_of_mem (s : State) (is : List SlotNo) (r : Reason) (own : Bool) (j : SlotNo)
    (hj : j ∈ is) (hn : is.Nodup) :
    (s.retireSlots is r own).slot j =
      match s.hold j with
      | some h => (s.slot j).retired h r (isPool j && !own)
      | none => s.slot j := by
  induction is generalizing s with
  | nil => cases hj
  | cons i is ih =>
    have hni : i ∉ is := (List.nodup_cons.mp hn).1
    have hstep : s.retireSlots (i :: is) r own = (s.retireSlot i r own).retireSlots is r own := rfl
    rw [hstep]
    by_cases hji : j = i
    · subst hji
      rw [State.slot_retireSlots_of_not_mem _ _ _ _ _ hni, State.slot_retireSlot, if_pos rfl]
    · have hm : j ∈ is := (List.mem_cons.mp hj).resolve_left hji
      rw [ih _ hm (List.nodup_cons.mp hn).2]
      have : (s.retireSlot i r own).slot j = s.slot j := by rw [State.slot_retireSlot, if_neg hji]
      simp [State.hold, this]

/-- R24: a countdown start maps each slot. -/
theorem State.slot_startCountdowns (s : State) (d : Door) (j : SlotNo) :
    (s.startCountdowns d).slot j = (s.slot j).startCountdown d := by
  simp [State.startCountdowns, State.slot]

/-- The slots selected by a test. -/
theorem State.mem_slotsWhere (s : State) (p : SlotNo → Hold → Bool) (i : SlotNo) :
    i ∈ s.slotsWhere p ↔ ∃ h, s.hold i = some h ∧ p i h = true := by
  have hi : i ∈ slotNos := by revert i; decide
  unfold State.slotsWhere
  rw [List.mem_filter]
  cases s.hold i with
  | none => simp
  | some h => simp [hi]

theorem State.nodup_slotsWhere (s : State) (p : SlotNo → Hold → Bool) : (s.slotsWhere p).Nodup :=
  List.Nodup.filter _ (by decide)

/-- R41: a recomputation writes no slot. -/
theorem slot_recompute (sc : DoorSet) (s : State) (j : SlotNo) : (recompute sc s).slot j = s.slot j := by
  simp [State.slot, State.slots_of_bare (bare_recompute sc s)]

/-- R18: holds retired in one event, and the records of their scopes: what it does to a slot. -/
theorem slot_tableRetire (s : State) (is : List SlotNo) (r : Reason) (own : Bool) (j : SlotNo) (hn : is.Nodup) :
    (tableRetire is r own s).slot j =
      if j ∈ is then
        match s.hold j with
        | some h => (s.slot j).retired h r (isPool j && !own)
        | none => s.slot j
      else s.slot j := by
  unfold tableRetire
  rw [slot_recompute]
  split
  · rename_i h; exact State.slot_retireSlots_of_mem s is r own j h hn
  · rename_i h; exact State.slot_retireSlots_of_not_mem s is r own j h

/-- R26: the examination of a hold just placed or amended touches no other slot. -/
theorem slot_examine_of_ne (s : State) {i j : SlotNo} (h : j ≠ i) : (examine i s).slot j = s.slot j := by
  unfold examine
  cases s.hold i with
  | none => rfl
  | some a =>
    dsimp only
    split
    · rw [State.slot_retireSlot, if_neg h]
    · rfl

/-- R26: a hold just placed or amended leaves at once where it is fulfilled. -/
theorem slot_examine (s : State) (i : SlotNo) :
    (examine i s).slot i =
      match s.hold i with
      | some h => if fulfilled s h then (s.slot i).retired h .fulfilled (isPool i) else s.slot i
      | none => s.slot i := by
  unfold examine
  cases hi : s.hold i with
  | none => rfl
  | some a =>
    dsimp only
    split
    · rw [State.slot_retireSlot, if_pos rfl, hi]; simp
    · rfl

/-- The examination writes slots and the RETIRED notices of their ports alone. -/
@[simp] theorem State.noSlots_examine (s : State) (i : SlotNo) : (examine i s).noSlots = s.noSlots := by
  unfold examine
  cases s.hold i with
  | none => rfl
  | some a =>
    dsimp only
    split
    · exact State.noSlots_retireSlot s i _ _
    · rfl

/-! ### Events between blocks -/

/-- An event that is taken was outstanding. -/
theorem mem_of_takeFirst {c : Instr} {l r : List Instr} (h : takeFirst c l = some r) : c ∈ l := by
  induction l generalizing r with
  | nil => simp [takeFirst] at h
  | cons e es ih =>
    unfold takeFirst at h
    split at h
    · rename_i he; exact he ▸ List.mem_cons_self
    · split at h
      · simp at h
      · rw [Option.map_eq_some_iff] at h
        obtain ⟨r', h', _⟩ := h
        exact List.mem_cons_of_mem e (ih h')

/-- What is left outstanding was outstanding, in the same order. -/
theorem sublist_of_takeFirst {c : Instr} {l r : List Instr} (h : takeFirst c l = some r) : r.Sublist l := by
  induction l generalizing r with
  | nil => simp [takeFirst] at h
  | cons e es ih =>
    unfold takeFirst at h
    split at h
    · cases h; exact List.sublist_cons_self e es
    · split at h
      · simp at h
      · rw [Option.map_eq_some_iff] at h
        obtain ⟨r', h', rfl⟩ := h
        exact List.Sublist.cons_cons e (ih h')

/-- The state once an event is taken differs in what is outstanding alone. -/
theorem State.takeSent_eq {s t : State} {c : Instr} (h : s.takeSent c = some t) :
    ∃ r, takeFirst c s.sent = some r ∧ t = { s with sent := r } := by
  unfold State.takeSent at h
  rw [Option.map_eq_some_iff] at h
  obtain ⟨r, h1, h2⟩ := h
  exact ⟨r, h1, h2.symm⟩

end Sys2Proof.Machine
end

