-- ==== Sys2Proof/Laws/Step.lean ====
section
/-! SUPPORT. The frame of a meaning: what `act`, `actSent` and `settle` do, and the step by its queue. -/

namespace Sys2Proof.Machine

/-- A command at a running part: its effect, then the outputs that follow. -/
theorem act_of_running {s : State} (f : State → State) (h : s.running = true) : act s f = .next (f s).settle := by
  simp [act, h]

/-- R180: a held part takes nothing. -/
theorem act_of_held {s : State} (f : State → State) (h : s.running = false) : act s f = .next s := by
  simp [act, h]

/-- An event that is the next of its way is taken by its effect. -/
theorem actSent_of_taken {s s1 : State} {c : Instr} (f : State → State) (h : s.running = true)
    (ht : s.takeSent c = some s1) : actSent s c f = .next (f s1).settle := by
  simp [actSent, act, h, ht]

/-- An event that is not outstanding changes nothing (log 8). -/
theorem actSent_of_unsent {s : State} {c : Instr} (f : State → State) (h : s.running = true)
    (ht : s.takeSent c = none) : actSent s c f = .next s.settle := by
  simp [actSent, act, h, ht]

/-- R53, R173: settling writes the chimes and the attention lines, and forgets the epoch before the start (log 11). -/
theorem State.settle_eq (s : State) : s.settle =
    { s with
      epochOld := none
      chime0 := s.chimeWanted .left, chime1 := s.chimeWanted .right
      portT := { s.portT with attention := s.portT.wantsAttention }
      portS := { s.portS with attention := s.portS.wantsAttention } } := rfl

section Settle
variable (s : State)

@[simp] theorem State.settle_chan (d : Door) : s.settle.chan d = s.chan d := rfl
@[simp] theorem State.settle_guard (d : Door) : s.settle.guard d = s.guard d := rfl
@[simp] theorem State.settle_demand (d : Door) : s.settle.demand d = s.demand d := rfl
@[simp] theorem State.settle_slot (i : SlotNo) : s.settle.slot i = s.slot i := rfl
@[simp] theorem State.settle_hold (i : SlotNo) : s.settle.hold i = s.hold i := rfl
@[simp] theorem State.settle_filter (l : Line) : s.settle.filter l = s.filter l := rfl
@[simp] theorem State.settle_cluDoor (d : Door) : s.settle.cluDoor d = s.cluDoor d := rfl
@[simp] theorem State.settle_resolve (d : Door) : s.settle.resolve d = s.resolve d := rfl
@[simp] theorem State.settle_released (d : Door) : s.settle.released d = s.released d := rfl
@[simp] theorem State.settle_fitted (d : Door) : s.settle.fitted d = s.fitted d := rfl
@[simp] theorem State.settle_asserted (l : Line) : s.settle.asserted l = s.asserted l := rfl
@[simp] theorem State.settle_chanInRun (d : Door) : s.settle.chanInRun d = s.chanInRun d := rfl
@[simp] theorem State.settle_allProven : s.settle.allProven = s.allProven := rfl
@[simp] theorem State.settle_chimeWanted (sd : Side) : s.settle.chimeWanted sd = s.chimeWanted sd := rfl
@[simp] theorem State.settle_running : s.settle.running = s.running := rfl

/-- The port after settling: its attention line alone is new. -/
theorem State.settle_port (p : Port) :
    s.settle.port p = { s.port p with attention := (s.port p).wantsAttention } := by
  cases p <;> rfl

/-- Settling twice is settling once. -/
@[simp] theorem State.settle_settle : s.settle.settle = s.settle := rfl

end Settle

/-- R177, R181: a store cut short leaves the epoch cell alone. -/
@[simp] theorem cutStore_epochCell (s : State) : (cutStore s).epochCell = s.epochCell := by
  unfold cutStore; split <;> rfl

@[simp] theorem cutStore_epochOld (s : State) : (cutStore s).epochOld = s.epochOld := by
  unfold cutStore; split <;> rfl

/-- R181: a start cut short leaves the epoch cell's old value or its new one (log 11). -/
theorem holdPart_epochCell {s : State} {old : Byte} (h : s.epochOld = some old) :
    (holdPart s).epochCell = old ∨ (holdPart s).epochCell = s.epochCell := by
  simp only [holdPart, cutStart, cutStore_epochOld, h, cutStore_epochCell]
  split
  · exact .inl rfl
  · exact .inr rfl

/-- R181: with no start to cut short, the epoch cell stands. -/
theorem holdPart_epochCell_none {s : State} (h : s.epochOld = none) : (holdPart s).epochCell = s.epochCell := by
  simp [holdPart, cutStart, h]

/-- The step of a state with a command in front. -/
theorem step_cons {s : State} {c : Instr} {rest : List Instr} (h : s.pending = c :: rest) :
    step s = exec c { s with pending := rest } := by
  simp [step, h]

/-- The step of a state without commands and without outstanding events. -/
theorem step_nil_nil {s : State} (hp : s.pending = []) (hs : s.sent = []) : step s = .next s := by
  simp [step, idle, hp, hs]

/-- The step of a state without commands whose oldest outstanding event is known. -/
theorem step_nil_cons {s : State} {e : Instr} {es : List Instr} (hp : s.pending = []) (hs : s.sent = e :: es) :
    step s = exec e s := by
  simp [step, idle, hp, hs]

/-- A property that every command keeps, and that does not read the queue, is kept by every step. -/
theorem step_keeps {Inv : State → Prop}
    (hq : ∀ s l, Inv s → Inv { s with pending := l })
    (hc : ∀ c s t, Inv s → exec c s = .next t → Inv t) :
    ∀ s t, Inv s → step s = .next t → Inv t := by
  intro s t hs ht
  cases hp : s.pending with
  | nil =>
    cases he : s.sent with
    | nil =>
      rw [step_nil_nil hp he] at ht
      cases ht
      exact hs
    | cons e es =>
      rw [step_nil_cons hp he] at ht
      exact hc e s t hs ht
  | cons c rest =>
    rw [step_cons hp] at ht
    exact hc c _ t (hq s rest hs) ht

end Sys2Proof.Machine
end

