-- ==== Sys2Proof/Laws/Link.lean ====
section
/-! SUPPORT. The receiver and the transmitter of a port: what hearing a character changes, and how many bits a
character has on the line (R163). -/

namespace Sys2Proof.Machine

/-- R163: a sent character has the bits of the port's settings. -/
theorem length_sentBits (l : LineSettings) (c : Byte) : (sentBits l c).length = charBits l := by
  rcases l with ⟨b, par, two⟩
  cases par <;> cases two <;> rfl

/-- R163: every bit of what a port sends belongs to a character of its answer. -/
theorem length_transmittedBits (s : State) (p : Port) :
    (s.transmittedBits p).length = (s.transmitting p).length * charBits (s.port p).line := by
  unfold State.transmittedBits
  induction s.transmitting p with
  | nil => simp
  | cons c l ih => rw [List.flatMap_cons, List.length_append, ih, length_sentBits, List.length_cons]; ring

section Hear
variable (s : State) (p q : Port) (ch : RxChar)

/-- R163: hearing a character sets whether the receiver waits for its line to return high, and nothing else. -/
theorem State.port_hear :
    (s.hear p ch).port q =
      if q = p then { s.port q with awaitHigh := isBreak (s.port q).line ch } else s.port q := by
  cases p <;> cases q <;> rfl

theorem State.port_heardWhole :
    (s.heardWhole p).port q = if q = p then { s.port q with rx := none, awaitHigh := false } else s.port q := by
  cases p <;> cases q <;> rfl

@[simp] theorem State.hear_running : (s.hear p ch).running = s.running := by cases p <;> rfl
@[simp] theorem State.hear_cfg : (s.hear p ch).cfg = s.cfg := by cases p <;> rfl
@[simp] theorem State.heardWhole_running : (s.heardWhole p).running = s.running := by cases p <;> rfl
@[simp] theorem State.heardWhole_cfg : (s.heardWhole p).cfg = s.cfg := by cases p <;> rfl

/-- A character that is no break leaves the line high. -/
theorem State.awaitHigh_hear_of_not_break (h : isBreak (s.port p).line ch = false) :
    ((s.hear p ch).port p).awaitHigh = false := by
  rw [State.port_hear, if_pos rfl]; exact h

end Hear

end Sys2Proof.Machine
end

