-- ==== Sys2Proof/Laws/Safety.lean ====
section
/-! SUPPORT. Runs: a property that holds at reset, that every step keeps and that does not read the queue, holds in
every state that a run reaches. -/

namespace Sys2Proof.Safety

open Machine

theorem Reachable.inv {Inv : State → Prop} (h0 : Inv State.reset)
    (hq : ∀ s l, Inv s → Inv { s with pending := l }) (hk : Kept Inv) {s : State} (h : Reachable s) : Inv s := by
  induction h with
  | reset => exact h0
  | command s c _ ih => exact hq s _ ih
  | step s t _ hs ih => exact hk s t ih hs

/-- A property that every command keeps is Kept. -/
theorem kept_of_exec {Inv : State → Prop} (hq : ∀ s l, Inv s → Inv { s with pending := l })
    (hc : ∀ c s t, Inv s → exec c s = .next t → Inv t) : Kept Inv :=
  step_keeps hq hc

/-! No invariant reads the queue. -/

theorem TableOk.pending {s : State} (l : List Instr) (h : TableOk s) : TableOk { s with pending := l } := h
theorem QuotasOk.pending {s : State} (l : List Instr) (h : QuotasOk s) : QuotasOk { s with pending := l } := h
theorem ConfigureQuiet.pending {s : State} (l : List Instr) (h : ConfigureQuiet s) :
    ConfigureQuiet { s with pending := l } := h
theorem LoopOk.pending {s : State} (l : List Instr) (h : LoopOk s) : LoopOk { s with pending := l } := h
theorem LinkOk.pending {s : State} (l : List Instr) (h : LinkOk s) : LinkOk { s with pending := l } := h
theorem SignalsOk.pending {s : State} (l : List Instr) (h : SignalsOk s) : SignalsOk { s with pending := l } := h
theorem OutputsOk.pending {s : State} (l : List Instr) (h : OutputsOk s) : OutputsOk { s with pending := l } := h
theorem DemandsOk.pending {s : State} (l : List Instr) (h : DemandsOk s) : DemandsOk { s with pending := l } := h
theorem ObstructionOk.pending {s : State} (l : List Instr) (h : ObstructionOk s) :
    ObstructionOk { s with pending := l } := h
theorem ConfigOk.pending {s : State} (l : List Instr) (h : ConfigOk s) : ConfigOk { s with pending := l } := h

end Sys2Proof.Safety
end

