-- ==== Sys2Proof/Tests/Slice0.lean ====
section
/-! SUPPORT. Tests on small states: well-formedness, one step of each command, and a witness for the
hypotheses of each statement. -/

namespace Sys2Proof.Tests

open Machine Safety Claims

set_option maxRecDepth 100000
set_option Elab.async false

/-! ### Small states -/

/-- The state after a command that completes. -/
def after (c : Instr) (s : State) : State :=
  match exec c s with
  | .next t => t
  | .fault _ => s
  | .refused _ => s

/-- Result and payload of the answer that a port sends. -/
def answer (p : Port) (t : State) : Option (Byte × List Byte) :=
  match (t.port p).slot with
  | .free => none
  | .reserved _ => none
  | .sending a _ => some (a.result, a.payload)

/-- The part in RUN with every line low. -/
def run0 : State := { State.reset with mode := .run }

/-- A line asserted under the default settings. -/
def high (l : Line) (s : State) : State := s.setFilter l { pin := .high, level := .high, count := 0 }

/-- The part in CONFIGURE with the maintenance key turned. -/
def keyed : State := high .mkey State.reset

/-- A referenced leaf in a state at a position. -/
def leaf (st : ChState) (p : Position) : Channel :=
  { Channel.start true .low .low with state := st, position := p, band := bandOf p, referenced := true }

/-- Channel 0 of a part in RUN replaced. -/
def leafAt (c : Channel) : State := run0.setChan 0 c

/-- The record of doorway 0 replaced. -/
def wants (k : DemandKind) (target : Option Nat) (s : State) : State :=
  s.setDemand 0 { kind := k, gov := none, target := target, released := target.isSome, blocked := false }

/-- One event outstanding. -/
def told (c : Instr) (s : State) : State := { s with sent := [c] }

/-- A hold of the pool for doorway 0. -/
def poolHold (i : SlotNo) (x : Issuer) (k : HoldKind) (level : HoldLevel) : Hold :=
  { handle := { epoch := 0#8, slot := BitVec.ofNat 8 i.val, generation := 0#8 }
    issuer := x, kind := k, scope := 1#8, level := level, lifetime := none, countdown := .running
    limit := none, rwl := false, tag := 0#16 }

/-- The part in RUN with one hold in a pool slot. -/
def holding (i : SlotNo) (x : Issuer) (k : HoldKind) (level : HoldLevel) : State :=
  run0.setHold i (poolHold i x k level)

/-- A hold in a fixed slot. -/
def fixedHold (i : SlotNo) (x : Issuer) (level : HoldLevel) : Hold :=
  { poolHold i x (slotRole i).kind level with scope := (slotRole i).scope }

/-- The left side released by line and by link. -/
def releasedLeft (s : State) : State :=
  (s.setHold 0 (fixedHold 0 .rln 7)).setHold 27 { poolHold 27 .trn .release 1 with scope := 0x0F#8 }

/-- An OPEN hold for doorway 0 in pool slot 26. -/
def opensBy26 (s : State) : State := s.setHold 26 (poolHold 26 .atd .opens 2)

/-- The parameters of a plain OPEN for doorway 0. -/
def openFor (level : Byte) : PlaceParams :=
  { kind := 1#8, scope := 1#8, level := level, options := 0#8, lifetime := 0xFFFF#16, openLimit := 0xFFFF#16
    tag := 5#16 }

/-- A character without error under the default settings: even parity, one stop bit. -/
def char (b : Byte) : RxChar := { data := b, parityBit := parityOf b, stopHigh := true }

/-- A port in the middle of sending an answer. -/
def sendingAnswer : AnswerSlot :=
  .sending { kind := 0x81#8, seq := 1#8, result := 0#8, flags := 0#8, payload := [] } false

/-- The one event outstanding is taken. -/
theorem takeSent_told (c : Instr) (s : State) : (told c s).takeSent c = some { s with sent := [] } := by
  simp [told, State.takeSent, takeFirst]

/-! ### Well-formedness -/

theorem test_wellFormed_refuses_long_write :
    WellFormed (.configWrite .s 1#8 0#16 (List.replicate 28 0#8)) = false ∧
    WellFormed (.configWrite .s 1#8 0#16 (List.replicate 27 0#8)) = true := by decide

theorem test_wellFormed_refuses_short_sample :
    WellFormed (.lineSample .release [.low, .low]) = false ∧
    WellFormed (.lineSample .release [.low, .low, .low]) = true ∧
    WellFormed (.lineSample .panel (List.replicate 16 .low)) = false ∧
    WellFormed (.lineSample .panel (List.replicate 17 .low)) = true := by decide

theorem test_wellFormed_refuses_bad_placement :
    WellFormed (.internalPlacement
      { issuer := .rln, slot := 2, level := 7, lifetime := none, waiting := false, limit := none }) = false ∧
    WellFormed (.internalPlacement
      { issuer := .rln, slot := 1, level := 7, lifetime := none, waiting := true, limit := none }) = false ∧
    WellFormed (.internalPlacement
      { issuer := .pnl, slot := 9, level := 2, lifetime := some 6001, waiting := true, limit := none }) = false ∧
    WellFormed (.internalPlacement
      { issuer := .pnl, slot := 9, level := 2, lifetime := some 6000, waiting := true, limit := some 300 }) = false ∧
    WellFormed (.internalPlacement
      { issuer := .grd, slot := 17, level := 5, lifetime := some 30, waiting := true, limit := some 300 }) = true := by
  decide

theorem test_wellFormed_refuses_bad_raise :
    WellFormed (.raise 1) = false ∧ WellFormed (.raise 10) = false ∧ WellFormed (.raise 26) = false ∧
    WellFormed (.raise 2) = true ∧ WellFormed (.raise 9) = true ∧ WellFormed (.raise 18) = true ∧
    WellFormed (.raise 25) = true := by decide

theorem test_no_word_spells_a_command : decodeTableWord 8 0x05 = none := by decide

/-! ### The CRC-8 (R165) -/

theorem test_crc8_check_value :
    crc8 [0x31#8, 0x32#8, 0x33#8, 0x34#8, 0x35#8, 0x36#8, 0x37#8, 0x38#8, 0x39#8] = 0xF4#8 := by
  decide +kernel

theorem test_presence_frame : frameOf [0x01#8, 0x00#8] = [0xA5#8, 0x02#8, 0x01#8, 0x00#8, 0xC3#8] := by
  decide +kernel

/-! ### One step of each command: requests (Chapters 1, 4, 5, 7 to 10) -/

theorem test_presence :
    ((after (.presence .t 7#8) State.reset).port .t).slot =
      .sending { kind := 0x81#8, seq := 7#8, result := 0#8, flags := 0x02#8, payload := [] } false := by
  decide +kernel

theorem test_place :
    let t := after (.place .s 9#8 (openFor 2#8)) run0
    answer .s t = some (0x00#8, [0#8, 26#8, 0#8]) ∧
    t.hold 26 = some { poolHold 26 .atd .opens 2 with tag := 5#16 } ∧
    t.demand 0 = { kind := .closes, gov := some { epoch := 0#8, slot := 26#8, generation := 0#8 }
                   target := none, released := false, blocked := true } := by decide +kernel

/-- Doorway 0 proven at the Car Loop Unit, its channel already in UNLOCKING under an OPEN record. -/
def unlocksProven : State :=
  ((opensBy26 (releasedLeft (leafAt { leaf .unlocking 0 with drive := .brake, solenoid := true
                                                             unlock := some (.first, 30) }))).setCluDoor 0
    { cls := .high, lks := .high, chState := .locked, proven := true }).setDemand 0
      { kind := .opens, gov := some { epoch := 0#8, slot := 26#8, generation := 0#8 }, target := some 960
        released := true, blocked := false }

/-- R41: a placement that is fulfilled at once recomputes once, after it, so the record never changes and the
leaf goes on unlocking. -/
theorem test_place_fulfilled_at_once :
    let t := after (.place .s 9#8 { openFor 6#8 with kind := 2#8, options := 2#8 }) unlocksProven
    answer .s t = some (0x00#8, [0#8, 28#8, 0#8]) ∧ (t.slot 28).lastReason = some .fulfilled ∧
    (t.chan 0).state = .unlocking ∧ t.sent = [] := by decide +kernel

theorem test_place_level_denied :
    answer .t (after (.place .t 9#8 (openFor 5#8)) run0) = some (0x03#8, []) := by decide +kernel

theorem test_amend :
    let t := after (.amend .s 9#8 { handle := { epoch := 0#8, slot := 26#8, generation := 0#8 }, marks := 0x01#8
                                    level := 6#8, scope := 0#8, openLimit := 0#16, rwl := 0#8, tag := 9#16 })
      (holding 26 .atd .closes 2)
    answer .s t = some (0x00#8, []) ∧ t.hold 26 = some (poolHold 26 .atd .closes 6) := by decide +kernel

theorem test_renew :
    let t := after (.renew .s 9#8 { epoch := 0#8, slot := 26#8, generation := 0#8 } 30#16)
      (holding 26 .atd .closes 2)
    answer .s t = some (0x00#8, []) ∧
    t.hold 26 = some { poolHold 26 .atd .closes 2 with lifetime := some 30 } := by decide +kernel

theorem test_retire :
    let t := after (.retire .s 9#8 { epoch := 0#8, slot := 26#8, generation := 0#8 }) (holding 26 .trn .closes 2)
    answer .s t = some (0x00#8, []) ∧
    t.slot 26 = { hold := none, generation := 1#8, lastReason := some .requested, mark := some .trn } ∧
    (t.port .t).kinds = 0x03#8 := by decide +kernel

theorem test_withdraw :
    let t := after (.withdraw .s 9#8 0xFF#8) (holding 26 .atd .closes 2)
    answer .s t = some (0x00#8, [1#8]) ∧
    t.slot 26 = { hold := none, generation := 1#8, lastReason := some .requested, mark := none } := by
  decide +kernel

theorem test_lookup :
    answer .s (after (.lookup .s 9#8 { epoch := 0#8, slot := 26#8, generation := 0#8 })
      (holding 26 .atd .closes 2)) =
      some (0x00#8, [0#8, 0#8, 26#8, 0#8, 1#8, 2#8, 1#8, 2#8, 0xFF#8, 0xFF#8, 0#8, 0xFF#8, 0xFF#8, 0#8, 0#8, 0#8]) ∧
    answer .s (after (.lookup .s 9#8 { epoch := 1#8, slot := 26#8, generation := 0#8 })
      (holding 26 .atd .closes 2)) = some (0x00#8, [2#8]) := by decide +kernel

theorem test_survey :
    answer .s (after (.survey .s 9#8 26#8 1#8 0xFF#8) (holding 26 .atd .closes 2)) =
      some (0x00#8, [1#8, 0#8, 26#8, 0#8, 1#8, 2#8, 1#8, 2#8, 0xFF#8, 0xFF#8, 0#8, 0xFF#8, 0xFF#8, 0#8, 0#8, 0#8,
        64#8]) ∧
    answer .s (after (.survey .s 9#8 64#8 1#8 0xFF#8) (holding 26 .atd .closes 2)) = some (0x01#8, []) := by
  decide +kernel

theorem test_doorwayReport :
    (answer .t (after (.doorwayReport .t 9#8 0x01#8) (leafAt (leaf .isOpen 300)))).map
      (fun a => (a.1, a.2.length, a.2.take 2, (a.2.drop 3).take 3)) =
      some (0x00#8, 22, [0#8, 7#8], [0#8, 1#8, 44#8]) := by decide +kernel

theorem test_carReport :
    (answer .t (after (.carReport .t 9#8) run0)).map (fun a => (a.1, a.2.length, a.2.take 6, a.2.drop 17)) =
      some (0x00#8, 27, [1#8, 0#8, 0#8, 1#8, 0#8, 0#8], [1#8, 0#8, 0#8, 0#8, 0#8, 0#8, 0#8, 0#8, 0#8, 38#8]) := by
  decide +kernel

theorem test_clearObstruction :
    let t := after (.clearObstruction .s 9#8 0x01#8)
      ((leafAt (leaf .standing 300)).modGuard 0 (fun g => { g with reopenCount := 4, lastCause := some .edge }))
    answer .s t = some (0x00#8, [0x01#8]) ∧ (t.chan 0).state = .warning ∧ (t.chan 0).warn = some 20 ∧
    t.guard 0 = Guard.start := by decide +kernel

theorem test_clearFault :
    let t := after (.clearFault .s 9#8 0x01#8)
      (leafAt { Channel.start true .low .low with
        state := .faulted
        fault := some { first := .encoder, firstPosition := none, firstState := .isOpen, later := none } })
    answer .s t = some (0x00#8, [0x01#8, 0x00#8]) ∧ (t.chan 0).fault = none ∧ (t.chan 0).state = .warning := by
  decide +kernel

theorem test_panel :
    (after (.panel .t 9#8 1#8 1#8) run0).panelRight = true ∧
    (after (.panel .t 9#8 0#8 0#8) run0).sent = [.panelOffRetirement .left] := by decide +kernel

theorem test_collectNotices :
    let t := after (.collectNotices .t 9#8)
      (run0.setSlot 26 { hold := none, generation := 1#8, lastReason := some .expired, mark := some .trn })
    answer .t t = some (0x00#8, [1#8, 0#8, 0#8, 0#8, 1#8, 0#8, 26#8, 0#8, 2#8]) ∧
    (t.port .t).kinds = 0#8 ∧ (t.slot 26).mark = none ∧ (t.port .t).attention = false := by decide +kernel

theorem test_noticeMask :
    let t := after (.noticeMask .t 9#8 0x01#8) run0
    answer .t t = some (0x00#8, [0x01#8]) ∧ (t.port .t).mask = 0x01#8 ∧ (t.port .t).attention = false := by
  decide +kernel

theorem test_configRead :
    answer .t (after (.configRead .t 9#8 0#16 3#8) State.reset) = some (0x00#8, [1#8, 20#8, 10#8]) ∧
    answer .t (after (.configRead .t 9#8 444#16 2#8) State.reset) = some (0x01#8, []) := by decide +kernel

theorem test_configWrite :
    let t := after (.configWrite .s 9#8 37#16 [0#8]) keyed
    answer .s t = some (0x00#8, []) ∧ t.cfg.byteAt 37 = 0#8 ∧ (t.chan 0).state = .unfitted := by decide +kernel

theorem test_configWrite_out_of_range :
    answer .s (after (.configWrite .s 9#8 1#16 [4#8]) keyed) = some (0x0B#8, [0#8, 1#8]) := by decide +kernel

theorem test_configStore_reserves :
    ((after (.configStore .s 9#8) keyed).port .s).slot = .reserved 9#8 := by decide +kernel

theorem test_startRun :
    let t := after (.startRun .s 9#8) keyed
    answer .s t = some (0x00#8, []) ∧ t.mode = .run ∧ t.sent.length = 9 := by decide +kernel

theorem test_restart :
    ((after (.restart .s 9#8) keyed).port .s).slot =
      .sending { kind := 0x94#8, seq := 9#8, result := 0#8, flags := 0x02#8, payload := [] } true := by
  decide +kernel

/-! ### The link and the starts (Chapters 9 and 10) -/

theorem test_storeCompletion :
    let im : StoredImage := { image := { bytes := [1#8] }, crc := 7#8 }
    let t := after .storeCompletion
      ({ State.reset with store := some im }.modPort .s (fun x => { x with slot := .reserved 9#8 }))
    answer .s t = some (0x00#8, [7#8]) ∧ t.store = none ∧ t.stored = im := by decide +kernel

/-- A port that has received all of a PRESENCE but its CRC character. -/
def presenceBody : State :=
  run0.modPort .t (fun x => { x with
    rx := some { len := some 2, body := [0x01#8, 0x00#8], crc := 0xC3#8, damage := false } })

theorem test_messageCompletion :
    answer .t (after (.messageCompletion .t (char 0xC3#8)) presenceBody) = some (0x00#8, []) ∧
    answer .t (after (.messageCompletion .t (char 0xE9#8)) presenceBody) = some (0x0C#8, []) := by decide +kernel

theorem test_messageAbandoned :
    ((after (.messageAbandoned .t) presenceBody).port .t).rx = none := by decide +kernel

theorem test_characterReceived :
    let t1 := after (.characterReceived .t (char 0xA5#8)) run0
    let t2 := after (.characterReceived .t (char 0x02#8)) t1
    let t3 := after (.characterReceived .t (char 0x01#8)) t2
    (t2.port .t).rx = some { len := some 2, body := [], crc := 0x0E#8, damage := false } ∧
    (t3.port .t).rx = some { len := some 2, body := [0x01#8], crc := 0x2D#8, damage := false } := by
  decide +kernel

/-- R163: a start bit, the data bits least significant first, the parity bit, the stop bits. -/
theorem test_sentBits :
    sentBits { baud := .b19200, parity := .even, twoStopBits := false } 0xA5#8 =
      [.low, .high, .low, .high, .low, .low, .high, .low, .high, .low, .high] ∧
    sentBits { baud := .b19200, parity := .odd, twoStopBits := true } 0x01#8 =
      [.low, .high, .low, .low, .low, .low, .low, .low, .low, .low, .high, .high] ∧
    sentBits { baud := .b19200, parity := .none, twoStopBits := false } 0x80#8 =
      [.low, .low, .low, .low, .low, .low, .low, .low, .high, .high] := by decide +kernel

/-- R163: a break is heard as a character error, and the receiver waits for the line to return high. -/
theorem test_break :
    let t := after (.characterReceived .t { data := 0#8, parityBit := false, stopHigh := false }) run0
    (t.port .t).awaitHigh = true ∧ (t.port .t).rx = none ∧
    ((after (.characterReceived .t (char 0xA5#8)) t).port .t).awaitHigh = false := by decide +kernel

theorem test_answerSent :
    let s := run0.modPort .t (fun x => { x with
      slot := sendingAnswer, buffer := some { error := false, kind := 0x01#8, seq := 5#8, params := [] } })
    let t := after (.answerSent .t) s
    (t.port .t).buffer = none ∧
    (t.port .t).slot =
      .sending { kind := 0x81#8, seq := 5#8, result := 0#8, flags := 0x06#8, payload := [] } false := by
  decide +kernel

theorem test_supervisionIntervalExpiry :
    let t := after (.supervisionIntervalExpiry .t)
      (run0.modPort .t (fun x => { x with sup := .active, supTimer := some 10 }))
    (t.port .t).sup = .silent ∧ (t.port .t).supTimer = some 5 ∧ (t.port .s).kinds = 0x81#8 := by decide +kernel

theorem test_supervisionGraceExpiry :
    let t := after (.supervisionGraceExpiry .t)
      (run0.modPort .t (fun x => { x with sup := .silent, supTimer := some 5 }))
    (t.port .t).sup = .lost ∧ t.sent = [.linkLost .t] ∧ (t.port .s).kinds = 0x81#8 := by decide +kernel

theorem test_linkLost :
    let t := after (.linkLost .t) (told (.linkLost .t) (holding 26 .trn .closes 2))
    t.slot 26 = { hold := none, generation := 1#8, lastReason := some .linkLost, mark := some .trn } := by
  decide +kernel

/-- A part whose stored image is good: nine bytes, with their CRC character. -/
def shortStored : State :=
  { run0 with stored := { image := { bytes := [0x31#8, 0x32#8, 0x33#8, 0x34#8, 0x35#8, 0x36#8, 0x37#8, 0x38#8,
                                               0x39#8] }, crc := 0xF4#8 } }

/-- A part whose stored image is bad: no bytes, with a CRC character that is not 0. -/
def shortBad : State := { run0 with stored := { image := { bytes := [] }, crc := 1#8 } }

theorem test_powerOn :
    let t := after .powerOn { shortBad with epochCell := 0xFF#8 }
    t.resetCause = .powerOn ∧ t.epoch = 0#8 ∧ t.epochCell = 0#8 ∧ t.source = .defaults ∧ t.mode = .configure := by
  decide +kernel

/-- R181: a reset right after a start leaves the epoch cell's old value or its new one; a part that has taken any
other event in between has finished its write. -/
theorem test_start_cut_short :
    let s := after .powerOn { shortBad with epochCell := 7#8 }
    s.epochOld = some 7#8 ∧ s.epochCell = 8#8 ∧
    (after (.presence .t 1#8) s).epochOld = none ∧
    (after .resetLineAsserted (after (.presence .t 1#8) s)).epochCell = 8#8 := by decide +kernel

theorem test_start_cut_short_leaves_old_or_new :
    let t := after .resetLineAsserted (after .powerOn { shortBad with epochCell := 7#8 })
    t.epochCell = 7#8 ∨ t.epochCell = 8#8 := by
  intro t
  have h : (after .powerOn { shortBad with epochCell := 7#8 }).epochOld = some 7#8 := by decide +kernel
  exact (holdPart_epochCell (s := { after .powerOn { shortBad with epochCell := 7#8 } with resetLine := true }) h).imp
    id (fun h => h.trans (by decide +kernel))

theorem test_powerOn_loads_a_good_image :
    (after .powerOn shortStored).source = .stored := by decide +kernel

theorem test_resetLineAsserted :
    let t := after .resetLineAsserted (leafAt { leaf .isOpen 300 with drive := .brake })
    t.running = false ∧ (t.chan 0).drive = .free ∧ (t.port .t).attention = false := by decide +kernel

theorem test_resetLineReleased :
    let t := after .resetLineReleased { shortBad with resetLine := true }
    t.resetCause = .resetLine ∧ t.running = true ∧ t.mode = .configure := by decide +kernel

theorem test_supplyLoss :
    (after .supplyLoss run0).supply = false ∧ (after .supplyLoss run0).clu.stage = .unproven := by decide +kernel

theorem test_channelRunEntry :
    let t := after (.channelRunEntry 0) (told (.channelRunEntry 0) run0)
    (t.chan 0).state = .warning ∧ (t.chan 0).warn = some 20 ∧ t.chime0 = true ∧
    t.sent = [.channelStateAtClu 0 .warning] := by decide +kernel

theorem test_lineInputRunEntry :
    (after .lineInputRunEntry (told .lineInputRunEntry (high .relR run0))).sent =
      [.internalPlacement { issuer := .rln, slot := 1, level := 7, lifetime := none, waiting := false, limit := none },
       .raise 6, .raise 7, .raise 8, .raise 9] := by decide +kernel

/-! ### Lines and the Hold Table (Chapters 1 and 5) -/

theorem test_lineSample :
    let s := { run0 with panelLeft := true }.setFilter (.btn 0) { pin := .high, level := .low, count := 2 }
    let t := after (.lineSample .panel (.high :: List.replicate 16 .low)) s
    t.filter (.btn 0) = { pin := .high, level := .high, count := 0 } ∧
    t.sent = [.internalPlacement { issuer := .pnl, slot := 2, level := 0, lifetime := some 1200, waiting := false
                                   limit := none }] := by decide +kernel

theorem test_lineAcceptance :
    let t := after (.lineAcceptance (.edge 7) .high) (run0.setFilter (.edge 7) { pin := .high, level := .low, count := 2 })
    t.filter (.edge 7) = { pin := .high, level := .high, count := 0 } ∧ t.sent = [.edgeAcceptedAtGuard 7 .high] := by
  decide +kernel

/-- The RLN placement of the left side. -/
def leftRelease : Placement :=
  { issuer := .rln, slot := 0, level := 7, lifetime := none, waiting := false, limit := none }

theorem test_internalPlacement :
    let t := after (.internalPlacement leftRelease) (told (.internalPlacement leftRelease) run0)
    t.hold 0 = some (fixedHold 0 .rln 7) ∧ (t.demand 3).released = false ∧ (t.demand 4).released = false := by
  decide +kernel

theorem test_raise :
    let t := after (.raise 2) (told (.raise 2) (run0.setHold 2 (fixedHold 2 .pnl 0)))
    t.hold 2 = some { fixedHold 2 .pnl 2 with lifetime := some 50, countdown := .waiting } := by decide +kernel

theorem test_lineDroppedRetirement :
    let t := after (.lineDroppedRetirement .left)
      (told (.lineDroppedRetirement .left) (run0.setHold 0 (fixedHold 0 .rln 7)))
    t.slot 0 = { hold := none, generation := 1#8, lastReason := some .lineDropped, mark := none } := by
  decide +kernel

theorem test_panelOffRetirement :
    let t := after (.panelOffRetirement .right)
      (told (.panelOffRetirement .right) (run0.setHold 9 (fixedHold 9 .pnl 2)))
    t.slot 9 = { hold := none, generation := 1#8, lastReason := some .panelOff, mark := none } := by decide +kernel

theorem test_expiry :
    let t := after (.expiry 26) (run0.setHold 26 { poolHold 26 .atd .closes 2 with lifetime := some 30 })
    t.slot 26 = { hold := none, generation := 1#8, lastReason := some .expired, mark := some .atd } ∧
    (t.port .s).kinds = 0x03#8 := by decide +kernel

theorem test_countdownStart :
    let h := { poolHold 26 .atd .opens 2 with lifetime := some 30, countdown := .waiting }
    (after (.countdownStart 0) (told (.countdownStart 0) (run0.setHold 26 h))).hold 26 =
      some { h with countdown := .running } := by decide +kernel

theorem test_channelEntryAtTable :
    let s := (run0.setHold 2 (fixedHold 2 .pnl 2)).setHold 10 (fixedHold 10 .grd 5)
    let t := after (.channelEntryAtTable 0 .standing) (told (.channelEntryAtTable 0 .standing) s)
    let u := after (.channelEntryAtTable 0 .egress) (told (.channelEntryAtTable 0 .egress) s)
    (t.hold 2).isSome = true ∧ (t.slot 10).lastReason = some .standing ∧
    (u.slot 2).lastReason = some .egress ∧ (u.slot 10).lastReason = some .egress := by decide +kernel

theorem test_provenEvent :
    let s := (run0.setHold 26 { poolHold 26 .atd .closes 2 with rwl := true }).setCluDoor 0
      { cls := .high, lks := .high, chState := .locked, proven := true }
    (after (.provenEvent 0) (told (.provenEvent 0) s)).slot 26 =
      { hold := none, generation := 1#8, lastReason := some .fulfilled, mark := some .atd } := by decide +kernel

/-! ### Channels and guard sections (Chapters 3, 4, 6 and 7) -/

theorem test_encoderStep :
    let s := wants .opens (some 960) (leafAt { leaf .plugOut 95 with drive := .driveOpen 160#8 })
    let t := after (.encoderStep 0 .opening) s
    (t.chan 0).position = 96 ∧ (t.chan 0).state = .slideOpen ∧ (t.guard 0).stallTimer = some 15 ∧
    (t.chan 0).encA = .high ∧ (t.chan 0).encB = .low := by decide +kernel

theorem test_illegalTransition :
    let t := after (.illegalTransition 0) (leafAt (leaf .isOpen 300))
    (t.chan 0).state = .faulted ∧ (t.chan 0).referenced = false ∧
    (t.chan 0).fault = some { first := .encoder, firstPosition := some 300, firstState := .isOpen, later := none } ∧
    (t.port .t).fault = 0x01#8 := by decide +kernel

theorem test_clsAcceptedAtChannel :
    let s := high (.cls 0) (leafAt { leaf .plugIn 6 with drive := .driveClose 120#8 })
    let t := after (.clsAcceptedAtChannel 0 .high) (told (.clsAcceptedAtChannel 0 .high) s)
    (t.chan 0).state = .locking ∧ (t.chan 0).drive = .driveClose 100#8 ∧ (t.chan 0).lockWait = some 40 := by
  decide +kernel

theorem test_lksAcceptedAtChannel :
    let s := high (.cls 0) (high (.lks 0) (leafAt { leaf .locking 3 with drive := .driveClose 100#8 }))
    let t := after (.lksAcceptedAtChannel 0 .high) (told (.lksAcceptedAtChannel 0 .high) s)
    (t.chan 0).state = .locked ∧ (t.chan 0).position = 0 ∧ (t.chan 0).drive = .free := by decide +kernel

theorem test_bfltAcceptedAtChannel :
    let s := high (.bflt 0) (leafAt { leaf .isOpen 960 with drive := .brake })
    let t := after (.bfltAcceptedAtChannel 0 .high) (told (.bfltAcceptedAtChannel 0 .high) s)
    (t.chan 0).state = .faulted ∧ ((t.chan 0).fault.map FaultRecord.first) = some .bridge := by decide +kernel

theorem test_edgeAcceptedAtGuard :
    let s := high (.edge 0) (leafAt { leaf .slideClose 300 with drive := .driveClose 120#8 })
    let t := after (.edgeAcceptedAtGuard 0 .high) (told (.edgeAcceptedAtGuard 0 .high) s)
    (t.chan 0).state = .relief ∧ (t.chan 0).drive = .driveOpen 140#8 ∧ (t.guard 0).reopenCount = 1 ∧
    t.sent.head? = some (.internalPlacement { issuer := .grd, slot := 10, level := 5, lifetime := some 30
                                              waiting := true, limit := none }) := by decide +kernel

theorem test_frcAcceptedAtGuard :
    let s := (high (.frc 0) (leafAt { leaf .slideOpen 300 with drive := .driveOpen 160#8 })).modGuard 0
      (fun g => { g with blank := 8, stage := .normal })
    let t := after (.frcAcceptedAtGuard 0 .high) (told (.frcAcceptedAtGuard 0 .high) s)
    (t.chan 0).state = .openBlocked ∧ (t.guard 0).openRetry = 1 ∧ (t.chan 0).retryWait = some 10 := by decide +kernel

theorem test_stallIntervalExpiry :
    let s := (leafAt { leaf .slideOpen 300 with drive := .driveOpen 240#8 }).modGuard 0
      (fun g => { g with stage := .normal })
    let t := after (.stallIntervalExpiry 0) s
    (t.chan 0).drive = .driveOpen 255#8 ∧ (t.guard 0).stage = .warn ∧ (t.guard 0).stallTimer = some 20 := by
  decide +kernel

theorem test_stallGraceExpiry :
    let s := wants .opens (some 960) ((leafAt { leaf .slideOpen 948 with drive := .driveOpen 184#8 }).modGuard 0
      (fun g => { g with stage := .warn }))
    ((after (.stallGraceExpiry 0) s).chan 0).state = .isOpen := by decide +kernel

theorem test_warningIntervalExpiry :
    let t := after (.warningIntervalExpiry 0) (leafAt { leaf .warning 960 with drive := .brake, warn := some 20 })
    (t.chan 0).state = .slideClose ∧ (t.chan 0).drive = .driveClose 120#8 ∧
    (t.chan 0).travel = some (.closing, 60) := by decide +kernel

theorem test_reversalPauseExpiry :
    ((after (.reversalPauseExpiry 0) (leafAt { leaf .stopping 300 with drive := .brake, pause := some 15 })).chan
      0).state = .warning := by decide +kernel

theorem test_travelTimerExpiry :
    let t := after (.travelTimerExpiry 0) (leafAt { leaf .slideClose 300 with
      drive := .driveClose 120#8, travel := some (.closing, 60) })
    ((t.chan 0).fault.map FaultRecord.first) = some (.travel .closing) ∧ (t.chan 0).drive = .free := by
  decide +kernel

theorem test_unlockWaitExpiry :
    let t := after (.unlockWaitExpiry 0) (leafAt { leaf .unlocking 0 with
      drive := .brake, solenoid := true, unlock := some (.first, 30) })
    (t.chan 0).unlock = some (.pause, 10) ∧ (t.chan 0).solenoid = false := by decide +kernel

theorem test_lockWaitExpiry :
    let t := after (.lockWaitExpiry 0) (leafAt { leaf .locking 3 with
      drive := .driveClose 100#8, lockWait := some 40 })
    (t.chan 0).state = .reseat ∧ (t.chan 0).drive = .driveClose 124#8 := by decide +kernel

theorem test_retryWaitExpiry :
    let t := after (.retryWaitExpiry 0) (wants .opens (some 960) (leafAt { leaf .openBlocked 300 with
      drive := .brake, retryWait := some 10 }))
    (t.chan 0).state = .slideOpen ∧ (t.chan 0).drive = .driveOpen 160#8 := by decide +kernel

theorem test_plausibilityTimerExpiry :
    let t := after (.plausibilityTimerExpiry 0) (leafAt { leaf .isOpen 960 with drive := .brake, plaus := some 10 })
    ((t.chan 0).fault.map FaultRecord.first) = some (.switch .lockedWithoutClosed) := by decide +kernel

theorem test_flashPhaseExpiry :
    ((after (.flashPhaseExpiry 0) (leafAt { leaf .warning 960 with lamp := .flashing true })).chan 0).lamp =
      .flashing false := by decide +kernel

/-! ### The Car Loop Unit (Chapter 6) -/

/-- Every doorway proven but doorway 0, whose channel is LOCKED. -/
def seven : State :=
  doors.foldl (fun s d => s.setCluDoor d { cls := .high, lks := .high, chState := .locked, proven := decide (d ≠ 0) })
    run0

theorem test_provenFlagUpdate :
    let t := after (.provenFlagUpdate 0 .closed .high) (told (.provenFlagUpdate 0 .closed .high) seven)
    (t.cluDoor 0).proven = true ∧ t.clu.stage = .proving ∧ t.clu.timer = some 20 ∧ t.sent = [.provenEvent 0] := by
  decide +kernel

theorem test_channelStateAtClu :
    let s := { seven with clu := { seven.clu with stage := .proven, loop := true } }
    let t := after (.channelStateAtClu 0 .unlocking) (told (.channelStateAtClu 0 .unlocking) s)
    t.clu.stage = .unproven ∧ t.clu.loop = false ∧ (t.port .t).kinds = 0x21#8 := by decide +kernel

theorem test_zspdAtClu :
    (after (.zspdAtClu .low) (told (.zspdAtClu .low) run0)).clu.movingUnproven = true := by decide +kernel

theorem test_provingTimerExpiry :
    let t := after .provingTimerExpiry { seven with clu := { seven.clu with stage := .proving, timer := some 20 } }
    t.clu.stage = .proven ∧ t.clu.loop = true ∧ (t.port .s).kinds = 0x21#8 := by decide +kernel

/-! ### Witnesses: each statement's hypotheses hold together in a concrete state

A theorem `wit_X` meets the hypotheses of `Obligations.X`, clause by clause. -/

theorem wit_EventsBetweenBlocksAreTakenInTurn :
    (State.reset.pending = [] ∧ State.reset.sent = []) ∧
    ((told .lineInputRunEntry run0).pending = [] ∧ (told .lineInputRunEntry run0).sent = [.lineInputRunEntry]) ∧
    (route (.raise 2) ≠ none ∧ State.reset.running = true ∧ (State.reset.takeSent (.raise 2)).isNone = true) := by
  decide +kernel

theorem wit_SenderThenModeAreChecked :
    (Ready .t State.reset ∧ issuerAt .t State.reset ∉ senderColumn .configWrite ∧
      requestOf (.configWrite .t 1#8 0#16 [0#8]) = some (.t, .configWrite, 1#8, configWriteBytes 0#16 [0#8])) ∧
    (Ready .s keyed ∧ issuerAt .s keyed ∉ senderColumn .panel ∧
      requestOf (.panel .s 1#8 0#8 0#8) = some (.s, .panel, 1#8, [0#8, 0#8])) ∧
    (Ready .t run0 ∧ issuerAt .t run0 ∉ senderColumn .clearFault) ∧
    (Ready .t State.reset ∧ issuerAt .t State.reset ∈ senderColumn .place ∧ State.reset.mode ∉ modeColumn .place) ∧
    (Ready .s (high .mkey run0) ∧ issuerAt .s (high .mkey run0) ∈ senderColumn .configStore ∧
      (high .mkey run0).mode ∉ modeColumn .configStore) := by
  unfold Ready
  repeat' apply And.intro
  all_goals decide +kernel

/-- A port that sends an answer, its buffer empty. -/
def busy (p : Port) : State := run0.modPort p (fun x => { x with slot := sendingAnswer })

/-- A port that sends an answer, a request in its buffer. -/
def busyFull (p : Port) : State := run0.modPort p (fun x => { x with
  slot := sendingAnswer, buffer := some { error := false, kind := 1#8, seq := 2#8, params := [] } })

theorem wit_BusyPortBuffersOneRequest :
    (requestOf (.presence .t 1#8) = some (.t, .presence, 1#8, []) ∧ (busy .t).running = true ∧
      ((busy .t).port .t).slot ≠ .free ∧ ((busy .t).port .t).buffer = none) ∧
    (WellFormed (.configWrite .s 1#8 0#16 (List.replicate 27 0#8)) = true ∧ (busyFull .s).running = true ∧
      ((busyFull .s).port .s).slot ≠ .free ∧ ((busyFull .s).port .s).buffer ≠ none) := by decide +kernel

/-- A port that has received a whole body. -/
def received (p : Port) (n : Nat) (body : List Byte) (crc : Byte) (damage : Bool) : State :=
  run0.modPort p (fun x => { x with rx := some { len := some n, body := body, crc := crc, damage := damage } })

/-- The same under NAK_ON_ERROR off at Port T. -/
def silentPort (crc : Byte) : State :=
  { received .t 2 [1#8, 0#8] crc false with cfg := Image.defaults.patch 28 [0#8] }

theorem wit_CompleteMessagesAreClassed :
    (requestOf (.presence .t 0#8) = some (.t, .presence, 0#8, []) ∧
      (presenceBody.port .t).rx = some { len := some 2, body := [1#8, 0#8], crc := 0xC3#8, damage := false } ∧
      charError (presenceBody.port .t).line (char 0xC3#8) = false) ∧
    (requestOf (.configWrite .t 0#8 0#16 (List.replicate 27 0#8)) =
        some (.t, .configWrite, 0#8, configWriteBytes 0#16 (List.replicate 27 0#8)) ∧
      (configWriteBytes 0#16 (List.replicate 27 0#8)).length + 2 = 32) ∧
    (Ready .t (received .t 2 [1#8, 0#8] 0xC3#8 true) ∧ Ready .t (silentPort 0xC3#8) ∧
      (silentPort 0xC3#8).cfg.nakOnError .t = false ∧ run0.cfg.nakOnError .t = true) ∧
    (Ready .t (received .t 2 [0#8, 0#8] 7#8 false) ∧ Ready .t (received .t 3 [21#8, 0#8, 0#8] 7#8 false) ∧
      charError (run0.port .t).line (char 7#8) = false ∧
      charError (run0.port .t).line { char 7#8 with stopHigh := false } = true ∧
      charError (run0.port .t).line { char 7#8 with parityBit := false } = true) := by
  unfold Ready
  repeat' apply And.intro
  all_goals decide +kernel

theorem wit_CrcIsTheShiftRegister :
    (∃ a r, ((busy .t).port .t).slot = .sending a r) ∧
    (let s := (busy .t).modPort .t (fun x => { x with
        rx := some { len := some 2, body := [1#8, 0#8], crc := 0xC3#8, damage := false } })
     s.running = true ∧ s.cfg.nakOnError .t = true ∧ (s.port .t).slot ≠ .free ∧ (s.port .t).buffer = none ∧
     crc8 [2#8, 1#8, 0#8] = 0xC3#8 ∧ charError (s.port .t).line (char 0xC3#8) = false ∧
     charError (s.port .t).line (char 0xE9#8) = false) :=
  ⟨⟨_, _, rfl⟩, by decide +kernel⟩

theorem wit_PresenceActsOnNothing :
    Ready .t State.reset ∧ Ready .s run0 ∧
    (Ready .t (received .t 3 [1#8, 7#8, 0#8] 9#8 false) ∧ charError (run0.port .t).line (char 9#8) = false) ∧
    Ready .t (received .t 32 (1#8 :: 7#8 :: List.replicate 30 0#8) 9#8 false) := by
  unfold Ready
  repeat' apply And.intro
  all_goals decide +kernel

theorem wit_LossIsTakenBeforeTheNextRequest :
    let s := told (.linkLost .t) (holding 26 .trn .closes 2)
    (s.running = true ∧ (s.port .t).slot = .free ∧ s.sent.contains (.linkLost .t) = true ∧
      heldBy .t 26 (poolHold 26 .trn .closes 2)) ∧
    (requestOf (.place .t 3#8 (openFor 2#8)) = some (.t, .place, 3#8, placeBytes (openFor 2#8)) ∧
      WellFormed (.place .t 3#8 (openFor 2#8)) = true) ∧
    (requestOf (.configWrite .t 3#8 0#16 (List.replicate 27 0#8)) =
        some (.t, .configWrite, 3#8, configWriteBytes 0#16 (List.replicate 27 0#8)) ∧
      WellFormed (.configWrite .t 3#8 0#16 (List.replicate 27 0#8)) = true) := by
  unfold heldBy; decide +kernel

/-- A number of pool slots, from 26 on, filled with holds of one issuer. -/
def filled (n : Nat) (x : Issuer) : State :=
  { run0 with slots := .ofFn (fun i => if 26 ≤ i.val ∧ i.val < 26 + n
      then { Slot.start with hold := some (poolHold i x .closes 2) } else Slot.start) }

theorem wit_HoldRequestsAreRefusedInOrder_place :
    (Ready .t run0 ∧ Ready .s run0 ∧ run0.mode = .run ∧ issuerAt .t run0 = .trn) ∧
    (4#8 &&& 0xFC#8 : Byte) ≠ 0#8 ∧ (3#8 &&& 0xFC#8 : Byte) = 0#8 ∧
    placeRefusal .trn { openFor 2#8 with kind := 5#8 } run0 = some .badRequest ∧
    placeRefusal .trn { openFor 2#8 with scope := 0#8 } run0 = some .badRequest ∧
    placeRefusal .trn (openFor 8#8) run0 = some .badRequest ∧
    placeRefusal .trn { openFor 2#8 with lifetime := 0#16 } run0 = some .badRequest ∧
    placeRefusal .trn { openFor 2#8 with lifetime := 6001#16 } run0 = some .badRequest ∧
    placeRefusal .trn { openFor 2#8 with openLimit := 1024#16 } run0 = some .badRequest ∧
    placeRefusal .trn { openFor 2#8 with kind := 3#8 } run0 = some .notPermitted ∧
    placeRefusal .trn (openFor 5#8) run0 = some .levelDenied ∧
    placeRefusal .trn { openFor 2#8 with openLimit := 96#16 } run0 = some .badRequest ∧
    placeRefusal .trn { openFor 2#8 with openLimit := 961#16 } run0 = some .badRequest ∧
    placeRefusal .trn { openFor 2#8 with scope := 3#8, options := 1#8 } run0 = some .badRequest ∧
    placeRefusal .trn { openFor 2#8 with options := 2#8 } run0 = some .badRequest ∧
    placeRefusal .trn (openFor 2#8) (filled 24 .trn) = some .quota ∧
    placeRefusal .trn (openFor 2#8) (filled 38 .mnt) = some .tableFull ∧
    placeRefusal .trn (openFor 2#8) (filled 23 .trn) = none ∧
    placeRefusal .trn (openFor 2#8) (filled 37 .mnt) = none := by
  unfold Ready
  repeat' apply And.intro
  all_goals decide +kernel

/-- The handle of pool slot 26 in its first generation. -/
def first26 : Handle := { epoch := 0#8, slot := 26#8, generation := 0#8 }

/-- An AMEND of the hold in slot 26. -/
def amend26 (marks level : Byte) : AmendParams :=
  { handle := first26, marks := marks, level := level, scope := 0#8, openLimit := 1024#16, rwl := 2#8, tag := 9#16 }

/-- Slot 26 after one retirement. -/
def retired26 : State :=
  run0.setSlot 26 { hold := none, generation := 1#8, lastReason := some .expired, mark := none }

theorem wit_HoldRequestsAreRefusedInOrder_handles :
    (0x20#8 &&& 0xE0#8 : Byte) ≠ 0#8 ∧ (0x1F#8 &&& 0xE0#8 : Byte) = 0#8 ∧
    (let s := holding 26 .trn .opens 2
     amendRefusal .trn (amend26 1#8 8#8) s = refusal .badRequest ∧
     amendRefusal .trn (amend26 2#8 0#8) s = refusal .badRequest ∧
     amendRefusal .trn (amend26 4#8 0#8) s = refusal .badRequest ∧
     amendRefusal .trn (amend26 8#8 0#8) s = refusal .badRequest ∧
     amendRefusal .atd (amend26 1#8 6#8) s = refusal .notPermitted ∧
     amendRefusal .trn (amend26 1#8 5#8) s = refusal .levelDenied ∧
     amendRefusal .trn { amend26 8#8 0#8 with rwl := 1#8 } s = refusal .badRequest ∧
     amendRefusal .trn (amend26 1#8 4#8) s = none ∧
     amendRefusal .trn (amend26 1#8 4#8) run0 = refusal .stale ∧
     amendRefusal .trn (amend26 1#8 4#8) retired26 = some { result := .retired, payload := [2#8] } ∧
     renewRefusal .trn first26 0#16 s = refusal .badRequest ∧
     renewRefusal .trn first26 6001#16 s = refusal .badRequest ∧
     renewRefusal .atd first26 6000#16 s = refusal .notPermitted ∧
     renewRefusal .trn first26 6000#16 run0 = refusal .stale ∧
     renewRefusal .trn first26 6000#16 retired26 = some { result := .retired, payload := [2#8] } ∧
     retireRefusal .trn first26 retired26 = some { result := .retired, payload := [2#8] } ∧
     retireRefusal .trn first26 run0 = refusal .stale ∧
     retireRefusal .atd first26 (holding 26 .mnt .closes 2) = refusal .notPermitted ∧
     retireRefusal .atd { first26 with slot := 25#8 } (high (.hdl 7) (run0.setHold 25 (fixedHold 25 .hdl 7))) =
       refusal .handleActive) ∧
    ((5#8 : Byte) ≠ 0xFF#8 ∧ 5 ≤ (5#8 : Byte).toNat) := by
  decide +kernel

theorem wit_PlaceCreatesHold :
    (Ready .s run0 ∧ placeRefusal .atd (openFor 2#8) run0 = none ∧ run0.hold 26 = none ∧
      (∀ j : SlotNo, isPool j = true → j < 26 → run0.hold j ≠ none)) ∧
    (Ready .t (filled 37 .mnt) ∧ placeRefusal .trn (openFor 2#8) (filled 37 .mnt) = none ∧
      (filled 37 .mnt).hold 63 = none ∧
      (∀ j : SlotNo, isPool j = true → j < 63 → (filled 37 .mnt).hold j ≠ none)) ∧
    (let q := { openFor 2#8 with kind := 2#8, options := 2#8 }
     let s := run0.setCluDoor 0 { cls := .high, lks := .high, chState := .locked, proven := true }
     placeRefusal .atd q s = none ∧ Proven s q.scope ∧ ¬ Proven run0 q.scope) := by
  unfold Ready
  repeat' apply And.intro
  all_goals decide +kernel

theorem wit_AmendAndRenewChangeTheirFields :
    (let s := holding 26 .atd .closes 2
     Ready .s s ∧ s.mode = .run ∧ TableOk s ∧ amendRefusal .atd (amend26 1#8 6#8) s = none ∧
     s.resolveHandle first26 = .live 26 (poolHold 26 .atd .closes 2) ∧
     renewRefusal .atd first26 1#16 s = none ∧ renewRefusal .atd first26 6000#16 s = none ∧
     renewRefusal .atd first26 0xFFFF#16 s = none) ∧
    (let s := run0.setHold 26 { poolHold 26 .atd .opens 2 with countdown := .waiting }
     TableOk s ∧ amendRefusal .atd { amend26 2#8 0#8 with scope := 2#8 } s = none) ∧
    (let s := holding 26 .atd .closes 2
     let u := s.setDemand 0 (s.resolve 0)
     renewRefusal .atd first26 1#16 u = none ∧ u.resolveHandle first26 = .live 26 (poolHold 26 .atd .closes 2) ∧
     ∀ d : Door, has 1#8 d = true → u.fitted d = true → u.demand d = u.resolve d) ∧
    (let s := (holding 26 .atd .closes 2).setCluDoor 0
        { cls := .high, lks := .high, chState := .locked, proven := true }
     TableOk s ∧ amendRefusal .atd { amend26 8#8 0#8 with rwl := 1#8 } s = none ∧ Proven s 1#8) := by
  unfold Ready TableOk
  repeat' apply And.intro
  all_goals decide +kernel

theorem wit_RetireAndWithdrawEndHolds :
    (let s := holding 26 .trn .closes 2
     Ready .s s ∧ s.mode = .run ∧ retireRefusal .atd first26 s = none ∧
     s.resolveHandle first26 = .live 26 (poolHold 26 .trn .closes 2) ∧ Ready .t s ∧
     retireRefusal .trn first26 s = none) ∧
    (let s := run0.setHold 2 (fixedHold 2 .pnl 3)
     let hd : Handle := (fixedHold 2 .pnl 3).handle
     Ready .t s ∧ retireRefusal .trn hd s = none ∧ s.resolveHandle hd = .live 2 (fixedHold 2 .pnl 3) ∧
     isPool 2 = false) ∧
    (4#8 : Byte).toNat < 5 := by
  unfold Ready
  repeat' apply And.intro
  all_goals decide +kernel

theorem wit_LookupAndSurveyReadTheTable :
    Ready .t retired26 ∧ Ready .s (holding 26 .atd .closes 2) ∧
    matching (filled 9 .mnt) 26#8 2#8 2#8 = [26, 27, 28, 29, 30, 31, 32, 33, 34] ∧
    matching (filled 9 .mnt) 63#8 6#8 4#8 = [] := by
  unfold Ready
  repeat' apply And.intro
  all_goals decide +kernel

theorem wit_ReportsAnswerThePart : Ready .t State.reset ∧ Ready .s run0 ∧ (0xFF#8 : DoorSet) ≠ 0#8 := by
  unfold Ready
  repeat' apply And.intro
  all_goals decide +kernel

theorem wit_NoticesAreCollectedAndMasked : Ready .t retired26 ∧ Ready .s State.reset := by
  unfold Ready
  repeat' apply And.intro
  all_goals decide +kernel

theorem wit_PanelSetsEnable :
    Ready .t run0 ∧ run0.mode = .run ∧ issuerAt .t run0 ≠ .mnt ∧ Ready .s run0 ∧ issuerAt .s run0 ≠ .mnt ∧
    ¬ (2 ≤ (1#8 : Byte).toNat) ∧ 2 ≤ (2#8 : Byte).toNat := by
  unfold Ready
  repeat' apply And.intro
  all_goals decide +kernel

theorem wit_ClearObstructionZeroesRecords :
    (let s := leafAt (leaf .standing 300)
     Ready .s s ∧ s.mode = .run ∧ has 1#8 0 = true ∧ s.fitted 0 = true ∧ (s.demand 0).kind = .closes ∧
     Unhindered 0 s) ∧
    (let s := wants .opens (some 312) (leafAt (leaf .standing 300))
     Ready .s s ∧ (s.demand 0).target = some 312 ∧ 312 ≤ (s.chan 0).position.val + s.cfg.endWindow 0) ∧
    (let s := wants .opens (some 313) (leafAt (leaf .openBlocked 300))
     Ready .s s ∧ ¬ (313 ≤ (s.chan 0).position.val + s.cfg.endWindow 0)) ∧
    (let s := leafAt (leaf .openBlocked 300)
     Ready .s s ∧ (s.demand 0).kind ≠ .opens) ∧
    (let s := leafAt (leaf .isOpen 300)
     Ready .s s ∧ (s.chan 0).state ≠ .standing ∧ (s.chan 0).state ≠ .openBlocked) := by
  unfold Ready
  repeat' apply And.intro
  all_goals decide +kernel

theorem wit_ClearObstructionZeroesRecords_hindered :
    (let s := high (.bflt 0) (leafAt (leaf .standing 300))
     Ready .s s ∧ (s.demand 0).kind = .closes ∧ s.asserted (.bflt 0) = true ∧ (s.chan 0).fault = none) ∧
    (let s := high (.bflt 0) (wants .opens (some 313) (leafAt (leaf .openBlocked 300)))
     Ready .s s ∧ (s.demand 0).target = some 313 ∧ s.asserted (.bflt 0) = true ∧ (s.chan 0).fault = none) ∧
    (let s := high (.frc 0) (wants .opens (some 313) (leafAt (leaf .standing 300)))
     let s := { s with cfg := s.cfg.patch (doorOffset 0 + 46) [0#8] }
     Ready .s s ∧ Strained 0 s ∧ s.asserted (.bflt 0) = false ∧
     ¬ (313 ≤ (s.chan 0).position.val + s.cfg.endWindow 0)) := by
  unfold Ready
  repeat' apply And.intro
  all_goals decide +kernel

/-- R98, R132: a standing doorway cleared with its bridge fault line asserted is FAULTED, from WARNING. -/
theorem test_clearObstruction_finds_the_bridge :
    let t := after (.clearObstruction .s 9#8 0x01#8) (high (.bflt 0) (leafAt (leaf .standing 300)))
    (t.chan 0).state = .faulted ∧
    (t.chan 0).fault.map (fun f => (f.first, f.firstState)) = some (.bridge, .warning) ∧
    t.sent = [.channelEntryAtTable 0 .faulted, .channelStateAtClu 0 .faulted] := by decide +kernel

/-- A fault record. -/
def faultRecord : FaultRecord := { first := .encoder, firstPosition := none, firstState := .isOpen, later := none }

/-- Channel 0 in a state with a fault record, its leaf unreferenced. -/
def withFault (st : ChState) : State :=
  leafAt { Channel.start true .low .low with state := st, fault := some faultRecord }

theorem wit_ClearFaultClearsOrPersists :
    (let s := withFault .faulted
     Ready .s s ∧ s.mode = .run ∧ issuerAt .s s ≠ .trn ∧ s.chanInRun 0 = true ∧ (s.demand 0).kind ≠ .egress ∧
     ¬ PairMade 0 s ∧ ¬ KeepsWaiting (s.demand 0)) ∧
    (let s := high (.cls 0) (high (.lks 0) (withFault .faulted))
     Ready .s s ∧ PairMade 0 s ∧ (referencedRecord 0 s).kind ≠ .opens) ∧
    (let s := opensBy26 (releasedLeft (high (.cls 0) (high (.lks 0) (withFault .faulted))))
     Ready .s s ∧ PairMade 0 s ∧ (referencedRecord 0 s).kind = .opens ∧ referencedRecord 0 s ≠ s.demand 0) ∧
    (let s := (withFault .faulted).setDemand 0 { Demand.resting with released := true, blocked := true }
     Ready .s s ∧ KeepsWaiting (s.demand 0)) ∧
    (Ready .s (withFault .egress) ∧ ((withFault .egress).chan 0).state = .egress) ∧
    (let s := high (.bflt 0) (withFault .faulted)
     Ready .s s ∧ s.asserted (.bflt 0) = true) := by
  unfold Ready
  repeat' apply And.intro
  all_goals decide +kernel

theorem wit_ConfigSpansAreChecked :
    (Ready .t State.reset ∧ 413 + 32 ≤ 445 ∧ ¬ (414 + 32 ≤ 445)) ∧
    (Ready .s keyed ∧ keyed.mode = .configure ∧ issuerAt .s keyed = .mnt ∧ 445 < 445 + 1) ∧
    (let f : Field := ⟨1, 1, .between 5 50, 20⟩
     f ∈ fields ∧ f.touched 0 2 = true ∧ f.ok (keyed.cfg.patch 0 [0#8, 4#8]) = false ∧
     ∀ g ∈ fields, g.offset < f.offset → g.touched 0 2 = true → g.ok (keyed.cfg.patch 0 [0#8, 4#8]) = true) := by
  unfold Ready
  repeat' apply And.intro
  all_goals decide +kernel

/-- A write that passes: every field that it touches is in range. -/
abbrev writes (o : Nat) (l : List Byte) : Prop :=
  l ≠ [] ∧ l.length ≤ 27 ∧ o + l.length ≤ 445 ∧
  ∀ f ∈ fields, f.touched o l.length = true → f.ok (keyed.cfg.patch o l) = true

theorem wit_ConfigWriteTakesEffect :
    (Ready .s keyed ∧ keyed.mode = .configure ∧ issuerAt .s keyed = .mnt) ∧
    writes 37 [0#8] ∧ writes 444 [40#8] ∧ writes 0 (keyed.cfg.bytes.take 27) ∧
    (writes 20 [0x80#8] ∧ (keyed.cfg.patch 20 [0x80#8]).filterCode .edge = 0) ∧
    (let s := keyed.setFilter (.edge 7) { pin := .high, level := .low, count := 1 }
     Ready .s s ∧ s.mode = .configure ∧ issuerAt .s s = .mnt ∧ s.cfg.filterCode .edge ≠ 0 ∧
     (s.filter (.edge 7)).pin ≠ (s.filter (.edge 7)).level) ∧
    (writes 29 [0#8] ∧ (keyed.cfg.patch 29 [0#8]).supTime .t = 0) := by
  unfold Ready
  repeat' apply And.intro
  all_goals decide +kernel

theorem wit_StoreWritesTheImage :
    (Ready .s keyed ∧ keyed.mode = .configure ∧ keyed.asserted .mkey = true) ∧
    (let s := ({ State.reset with store := some { image := { bytes := [1#8] }, crc := 7#8 } }).modPort .s
        (fun x => { x with slot := .reserved 9#8 })
     s.running = true ∧ s.store = some { image := { bytes := [1#8] }, crc := 7#8 } ∧
     (s.port .s).slot = .reserved 9#8) := by
  unfold Ready
  repeat' apply And.intro
  all_goals decide +kernel

/-- The image with no doorway fitted. -/
def noneFitted : Image := doors.foldl (fun im d => im.patch (doorOffset d) [0#8]) Image.defaults

theorem wit_StartRunEntersRun :
    (Ready .s keyed ∧ keyed.mode = .configure ∧ keyed.asserted .mkey = true ∧ CrossChecks keyed.cfg) ∧
    (let s := { keyed with cfg := Image.defaults.patch 89 [64#8, 0x03#8, 0xC0#8, 6#8, 64#8] }
     Ready .s s ∧ s.fitted 1 = true ∧ (∀ e : Door, e < 1 → DoorPasses s.cfg e) ∧ ¬ DoorPasses s.cfg 1) ∧
    (let s := { keyed with cfg := Image.defaults.patch 89 [79#8, 0#8, 94#8] }
     Ready .s s ∧ ¬ DoorPasses s.cfg 1 ∧ s.cfg.openEnd 1 < s.cfg.plugPoint 1 + 16) ∧
    (let s := { keyed with cfg := Image.defaults.patch 41 [96#8] }
     Ready .s s ∧ ¬ DoorPasses s.cfg 0 ∧ s.cfg.edgeMute 0 < s.cfg.plugPoint 0) ∧
    (let s := { keyed with cfg := noneFitted }
     Ready .s s ∧ ∀ d, s.fitted d = false) := by
  unfold Ready
  repeat' apply And.intro
  all_goals decide +kernel

theorem wit_RestartStartsAfterItsAnswer :
    (Ready .s keyed ∧ keyed.asserted .mkey = true ∧ Ready .s (high .mkey run0)) ∧
    (let s := run0.modPort .s (fun x => { x with
        slot := .sending { kind := 0x94#8, seq := 9#8, result := 0#8, flags := 0#8, payload := [] } true })
     s.running = true ∧ s.store = none ∧ ∃ a, (s.port .s).slot = .sending a true) := by
  unfold Ready; exact ⟨by decide +kernel, by decide +kernel, by decide +kernel, _, rfl⟩

theorem wit_StartsLeaveStartValues :
    (run0.resetLine = false ∧ run0.store = none) ∧
    (let s := { run0 with resetLine := true }
     s.resetLine = true ∧ s.supply = true ∧ s.store = none) ∧
    ({ run0 with resetLine := true, supply := false } : State).resetLine = true ∧
    (let s := { run0 with store := some shortStored.stored }
     s.resetLine = false ∧ s.store = some shortStored.stored) ∧
    (shortStored.stored.crc = crc8 shortStored.stored.image.bytes ∧
      shortBad.stored.crc ≠ crc8 shortBad.stored.image.bytes) := by decide +kernel

theorem wit_HeldPartDrivesAndTakesNothing :
    (run0.store = none ∧ ({ run0 with store := some shortStored.stored }).store ≠ none) ∧
    (run0.epochOld = some 0xFF#8 ∧ ({ run0 with epochOld := none }).epochOld = none) ∧
    ({ run0 with resetLine := true }).running = false ∧ ({ run0 with supply := false }).running = false := by
  decide +kernel

theorem wit_CharactersAreSentAndAssembled :
    ((∃ a r, ((busy .s).port .s).slot = .sending a r) ∧ (run0.port .t).slot = .free) ∧
    (run0.running = true ∧ (run0.port .t).rx = none) ∧
    (let s := run0.modPort .t (fun x => { x with rx := some { len := none, body := [], crc := 0#8, damage := false } })
     ∃ a, (s.port .t).rx = some a ∧ a.len = none) ∧
    (∃ a, ((received .t 2 [1#8] 0x2D#8 false).port .t).rx = some a ∧ a.len = some 2 ∧ a.body.length < 2) ∧
    (∃ a, ((received .t 32 [] 0#8 false).port .t).rx = some a ∧ a.len = some 32 ∧ a.body.length < 32) :=
  ⟨⟨⟨_, _, rfl⟩, by decide +kernel⟩, by decide +kernel, ⟨_, rfl, rfl⟩, ⟨_, rfl, rfl, by decide⟩,
    ⟨_, rfl, rfl, by decide⟩⟩

/-- Port T, supervised and in the middle of a message, sends an answer with a CAR_REPORT in its buffer. -/
def carReportWaits : State := run0.modPort .t (fun x => { x with
  slot := sendingAnswer, sup := .silent, supTimer := some 5
  rx := some { len := none, body := [], crc := 0#8, damage := false }
  buffer := some { error := false, kind := 0x0A#8, seq := 2#8, params := [] } })

theorem wit_AnswerSentTakesTheBuffer :
    ((busy .s).running = true ∧ ((busy .s).port .s).slot = sendingAnswer ∧ ((busy .s).port .s).buffer = none) ∧
    (requestOf (.presence .s 2#8) = some (.s, .presence, 2#8, []) ∧ WellFormed (.presence .s 2#8) = true ∧
      ((busyFull .s).port .s).buffer =
        some { error := false, kind := RequestKind.presence.code, seq := 2#8, params := [] }) ∧
    (requestOf (.carReport .t 2#8) = some (.t, .carReport, 2#8, []) ∧ carReportWaits.running = true ∧
      carReportWaits.cfg.supTime .t ≠ 0 ∧ (carReportWaits.port .t).rx ≠ none ∧
      carReportWaits.sent.contains (.linkLost .t) = false ∧
      (carReportWaits.port .t).buffer =
        some { error := false, kind := RequestKind.carReport.code, seq := 2#8, params := [] }) ∧
    (let m : Message := { error := true, kind := 1#8, seq := 2#8, params := [] }
     let s := run0.modPort .t (fun x => { x with slot := sendingAnswer, buffer := some m })
     s.running = true ∧ (s.port .t).buffer = some m ∧ m.error = true) := by decide +kernel

theorem wit_SupervisionRunsOut : State.reset.running = true ∧ run0.running = true := by decide +kernel

/-! Demand resolution -/

/-- Every hold in force over doorway 0 has a property. -/
abbrev allOver (s : State) (p : SlotNo → Hold → Prop) : Prop :=
  ∀ j, ∀ g ∈ s.hold j, has g.scope 0 = true → g.level ≠ 0 → p j g

theorem wit_RecordFollowsTheHoldsInForce_egress_isolate :
    (let s := run0.setHold 18 (fixedHold 18 .hdl 7)
     s.hold 18 = some (fixedHold 18 .hdl 7) ∧ has (fixedHold 18 .hdl 7).scope 0 = true ∧
     allOver s (fun j g => g.kind = .egress → 18 ≤ j)) ∧
    (let s := (holding 26 .atd .isolate 6).setHold 30 (poolHold 30 .mnt .isolate 6)
     s.hold 26 = some (poolHold 26 .atd .isolate 6) ∧ allOver s (fun _ g => g.kind ≠ .egress) ∧
     allOver s (fun j g => g.kind = .isolate → g.level < 6 ∨ (g.level = 6 ∧ 26 ≤ j))) := by
  repeat' apply And.intro
  all_goals decide +kernel

theorem wit_RecordFollowsTheHoldsInForce_move :
    (let s := (holding 26 .atd .closes 2).setHold 30 (poolHold 30 .mnt .opens 2)
     s.hold 26 = some (poolHold 26 .atd .closes 2) ∧
     allOver s (fun _ g => g.kind ≠ .egress ∧ g.kind ≠ .isolate ∧ g.level ≤ 2) ∧
     allOver s (fun j g => g.kind = .closes → 26 ≤ j)) ∧
    (let s := (releasedLeft (leafAt (leaf .locked 0))).setHold 30 (poolHold 30 .mnt .opens 2)
     s.hold 30 = some (poolHold 30 .mnt .opens 2) ∧ s.released 0 = true ∧ (s.chan 0).referenced = true ∧
     allOver s (fun _ g => g.kind ≠ .egress ∧ g.kind ≠ .isolate ∧ g.kind ≠ .closes) ∧
     allOver s (fun j g => g.kind = .opens → g.level ≤ 2 ∧ 30 ≤ j)) ∧
    (run0.setHold 30 (poolHold 30 .mnt .opens 2)).released 0 = false ∧
    allOver run0 (fun _ g => ¬ (g.kind = .opens ∨ g.kind = .closes)) := by
  repeat' apply And.intro
  all_goals decide +kernel

/-- Channel 0 in a state with an OPEN hold over a released doorway, its record not yet recomputed. -/
def opensNow (st : ChState) (p : Position) : State := opensBy26 (releasedLeft (leafAt (leaf st p)))

/-- Channel 0 in a state with an OPEN record and an empty table. -/
def closesNow (st : ChState) : State := wants .opens (some 960) (leafAt (leaf st 300))

/-- The premises that a record change brings to channel 0. -/
abbrev takesChange (s : State) : Prop :=
  s.chanInRun 0 = true ∧ Unhindered 0 s ∧ (s.chan 0).state ≠ .unfitted ∧ (s.chan 0).state ≠ .egress ∧
  (s.chan 0).state ≠ .unreferenced ∧ (s.chan 0).referenced = true ∧ s.resolve 0 ≠ s.demand 0 ∧
  (s.resolve 0).kind ≠ .egress

theorem wit_ChannelsActOnDemandChanges_open :
    (∀ st ∈ [ChState.referencing, .unlocking, .plugOut, .stopping, .relief, .faulted, .slideClose, .plugIn,
      .locking, .reseat, .warning, .standing, .slideOpen, .isOpen, .openBlocked],
      takesChange (opensNow st 300) ∧ ((opensNow st 300).resolve 0).target = some 960) ∧
    (takesChange (high (.lks 0) (opensNow .locked 0)) ∧ (high (.lks 0) (opensNow .locked 0)).asserted (.lks 0) = true) ∧
    (takesChange (opensNow .slideOpen 960) ∧ takesChange (opensNow .slideOpen 959)) ∧
    (takesChange (opensNow .isOpen 947) ∧ takesChange (opensNow .isOpen 948)) ∧
    (takesChange (opensNow .openBlocked 947) ∧ takesChange (opensNow .openBlocked 948)) := by
  repeat' apply And.intro
  all_goals decide +kernel

theorem wit_ChannelsActOnDemandChanges_close :
    (∀ st ∈ [ChState.referencing, .locked, .stopping, .warning, .slideClose, .plugIn, .locking, .reseat, .relief,
      .standing, .faulted, .unlocking, .plugOut, .slideOpen, .isOpen, .openBlocked],
      takesChange (closesNow st) ∧ ((closesNow st).resolve 0).kind = .closes) ∧
    (let s := (leafAt (leaf .isOpen 300)).setHold 26 (poolHold 26 .atd .closes 2)
     takesChange s ∧ (s.resolve 0).kind = (s.demand 0).kind ∧ (s.resolve 0).target = (s.demand 0).target) := by
  repeat' apply And.intro
  all_goals decide +kernel

/-- Channel 0 in a state, its leaf unreferenced. -/
def unrefAt (st : ChState) : State := leafAt { Channel.start true .low .low with state := st }

/-- Channel 0 in EGRESS, its EGRESS hold just retired. -/
def egressEnds (s : State) : State :=
  s.setDemand 0 { kind := .egress, gov := some first26, target := none, released := false, blocked := false }

/-- A record that differs from the one before, on a fitted doorway, no line hindering. -/
abbrev newRecord (s : State) : Prop :=
  s.fitted 0 = true ∧ Unhindered 0 s ∧ s.resolve 0 ≠ s.demand 0 ∧ (s.resolve 0).kind ≠ .egress

theorem wit_ChannelsActOnDemandChanges_entry :
    (let s := egressEnds (withFault .egress)
     newRecord s ∧ (s.chan 0).fault ≠ none ∧ s.chanInRun 0 = true) ∧
    (let s := egressEnds (unrefAt .egress)
     newRecord s ∧ (s.chan 0).fault = none ∧ s.chanInRun 0 = true ∧ ¬ PairMade 0 s) ∧
    (let s := egressEnds (high (.cls 0) (high (.lks 0) (unrefAt .egress)))
     newRecord s ∧ s.chanInRun 0 = true ∧ PairMade 0 s) ∧
    (let s := told (.channelRunEntry 0) (egressEnds (unrefAt .egress))
     newRecord s ∧ s.chanInRun 0 = false) ∧
    (let s := told (.channelRunEntry 0) (opensBy26 (unrefAt .unreferenced))
     newRecord s ∧ s.chanInRun 0 = false) ∧
    newRecord (opensNow .unfitted 0) := by
  repeat' apply And.intro
  all_goals decide +kernel

theorem wit_ChannelsActOnDemandChanges_unreferenced :
    (let s := opensBy26 (releasedLeft (unrefAt .unreferenced))
     newRecord s ∧ s.chanInRun 0 = true ∧ KeepsWaiting (s.resolve 0)) ∧
    (let s := (unrefAt .unreferenced).setHold 26 (poolHold 26 .atd .closes 2)
     newRecord s ∧ s.chanInRun 0 = true ∧ ¬ KeepsWaiting (s.resolve 0)) ∧
    (let s := opensBy26 (releasedLeft (unrefAt .warning))
     newRecord s ∧ s.chanInRun 0 = true ∧ (s.resolve 0).blocked = true ∧ (s.resolve 0).released = true) ∧
    (let s := opensBy26 (unrefAt .warning)
     newRecord s ∧ s.chanInRun 0 = true ∧ ¬ ((s.resolve 0).blocked = true ∧ (s.resolve 0).released = true)) ∧
    (let s := wants .opens (some 960) (opensNow .standing 300)
     newRecord s ∧ s.chanInRun 0 = true ∧ (s.resolve 0).kind = .opens ∧
     (s.resolve 0).target = (s.demand 0).target) := by
  repeat' apply And.intro
  all_goals decide +kernel

/-- R93: STANDING leaves by position at an OPEN record with another target. -/
theorem test_standing_takes_a_new_target :
    ((recomputeDoor 0 (wants .opens (some 700) (opensNow .standing 300))).chan 0).state = .slideOpen := by
  decide +kernel

/-- R54: an OPEN record that only another hold governs draws no reaction from STANDING. -/
theorem test_standing_passes_over_a_new_handle :
    let s := wants .opens (some 960) (opensNow .standing 300)
    recomputeDoor 0 s = s.setDemand 0 (s.resolve 0) := by
  decide +kernel

theorem wit_EgressLetsTheLeafGo :
    let s := (leafAt (leaf .isOpen 300)).setHold 18 (fixedHold 18 .hdl 7)
    s.fitted 0 = true ∧ (s.chan 0).state ≠ .unfitted ∧ (s.chan 0).state ≠ .egress ∧
    (s.resolve 0).kind = .egress ∧ s.resolve 0 ≠ s.demand 0 := by
  decide +kernel

/-! Events at the table. The event outstanding is the one asked for (takeSent_told). -/

/-- A GRD placement of doorway 0. -/
def guardPlacement : Placement :=
  { issuer := .grd, slot := 10, level := 5, lifetime := some 30, waiting := true, limit := none }

/-- An HDL placement of doorway 7. -/
def pulled : Placement :=
  { issuer := .hdl, slot := 25, level := 7, lifetime := none, waiting := false, limit := none }

theorem wit_InternalHoldsArePlacedAndRaised :
    (WellFormed (.internalPlacement leftRelease) = true ∧ WellFormed (.internalPlacement guardPlacement) = true ∧
      WellFormed (.internalPlacement pulled) = true) ∧
    (run0.running = true ∧ run0.mode = .run ∧ State.reset.mode = .configure ∧ run0.hold 0 = none) ∧
    (let s := leafAt (leaf .standing 300)
     guardPlacement.slot = grdSlot 0 ∧ (s.chan 0).state = .standing ∧
     (run0.chan 0).state ≠ .standing ∧ (run0.chan 0).state ≠ .faulted ∧ (run0.chan 0).state ≠ .egress) ∧
    (pulled.slot = hdlSlot 7 ∧ (run0.setHold 25 (fixedHold 25 .hdl 7)).hold 25 ≠ none) ∧
    (run0.setHold 10 (fixedHold 10 .grd 5)).hold 10 = some (fixedHold 10 .grd 5) ∧
    ((run0.setHold 2 (fixedHold 2 .pnl 0)).hold 2 = some (fixedHold 2 .pnl 0) ∧ (2 : SlotNo) = pnlSlot 0) ∧
    ((run0.setHold 25 (fixedHold 25 .hdl 0)).hold 25 = some (fixedHold 25 .hdl 0) ∧ (25 : SlotNo) = hdlSlot 7) ∧
    ((told (.raise 25) run0).takeSent (.raise 25) = some { run0 with sent := [] }) := by
  repeat' apply And.intro
  all_goals first | exact takeSent_told _ _ | decide +kernel

theorem wit_TableEventsRetire :
    ((told (.lineDroppedRetirement .left) run0).takeSent (.lineDroppedRetirement .left) =
      some { run0 with sent := [] }) ∧
    ((told (.panelOffRetirement .right) run0).takeSent (.panelOffRetirement .right) = some { run0 with sent := [] }) ∧
    ((told (.linkLost .s) run0).takeSent (.linkLost .s) = some { run0 with sent := [] }) ∧
    ((told (.provenEvent 7) run0).takeSent (.provenEvent 7) = some { run0 with sent := [] }) ∧
    run0.running = true :=
  ⟨takeSent_told _ _, takeSent_told _ _, takeSent_told _ _, takeSent_told _ _, by decide +kernel⟩

theorem wit_ChannelEventsStartCountdowns :
    ((told (.countdownStart 7) run0).takeSent (.countdownStart 7) = some { run0 with sent := [] }) ∧
    (∀ e, (told (.channelEntryAtTable 0 e) run0).takeSent (.channelEntryAtTable 0 e) =
      some { run0 with sent := [] }) ∧ run0.running = true :=
  ⟨takeSent_told _ _, fun _ => takeSent_told _ _, by decide +kernel⟩

/-! Lines -/

theorem wit_ThirdDifferingSampleIsAccepted :
    (WellFormed (.lineSample .release [.high, .low, .low]) = true ∧
      WellFormed (.lineSample .drive (List.replicate 16 .high)) = true ∧ run0.running = true) ∧
    (run0.cfg.filterCode .release ≠ 0 ∧ (Image.defaults.patch 18 [0x80#8]).filterCode .release = 0) ∧
    (run0.setFilter .relL { pin := .high, level := .low, count := 2 }).filter .relL =
      { pin := .high, level := .low, count := 2 } ∧
    (let s := run0.setFilter .zspd { pin := .low, level := .high, count := 2 }
     s.running = true ∧ s.mode = .run ∧ Level.low ≠ (s.filter .zspd).level ∧ (s.filter .zspd).count = 2 ∧
     Level.low ≠ s.cfg.activeLevel .release ∧ (Line.zspd, Level.low) ∈ (linesOf .release).zip [.low, .low, .low]) := by
  repeat' apply And.intro
  all_goals decide +kernel

/-- R103, R105: a sample that accepts two lines hands both over, in the order of Table 5-1. -/
theorem test_sample_hands_over :
    (after (.lineSample .edge (List.replicate 8 .high))
      ((run0.setFilter (.edge 2) { pin := .high, level := .low, count := 2 }).setFilter (.edge 5)
        { pin := .high, level := .low, count := 2 })).sent =
      [.edgeAcceptedAtGuard 2 .high, .edgeAcceptedAtGuard 5 .high] := by decide +kernel

theorem wit_AcceptancesReachTheirConsumers :
    (let s := run0.setFilter (.btn 7) { pin := .high, level := .low, count := 2 }
     s.running = true ∧ Level.high ≠ (s.filter (.btn 7)).level ∧ (s.filter (.btn 7)).count = 2) ∧
    (let s := { run0 with cfg := Image.defaults.patch 18 [0x80#8] }
     Level.high ≠ (s.filter .relL).level ∧ s.cfg.filterCode (classOf .relL) = 0) ∧
    (let s := run0.setFilter .zspd { pin := .high, level := .high, count := 2 }
     s.mode = .run ∧ Level.low ≠ s.cfg.activeLevel .release ∧ Level.low ≠ (s.filter .zspd).level) ∧
    ((told .lineInputRunEntry run0).takeSent .lineInputRunEntry = some { run0 with sent := [] } ∧ run0.mode = .run) := by
  repeat' apply And.intro
  all_goals first | exact takeSent_told _ _ | decide +kernel

/-! Channels -/

theorem wit_StepsAreCounted :
    (({ run0 with supply := false }).running = false ∧
      ((leafAt (leaf .unfitted 0)).chan 0).state = .unfitted) ∧
    (State.reset.chanInRun 0 = false ∧ (State.reset.chan 0).state ≠ .unfitted) ∧
    (let s := leafAt (leaf .isOpen 960)
     s.chanInRun 0 = true ∧ isMotionState (s.chan 0).state = false ∧ (s.chan 0).state ≠ .relief ∧
     (s.chan 0).referenced = true ∧ (s.chan 0).position.val < 1023 ∧
     (s.chan 0).position.val < s.cfg.openEnd 0 + 32 ∧ 0 < (s.chan 0).position.val) ∧
    ((leafAt (leaf .locked 1)).chan 0).position.val = 1 ∧
    (let s := leafAt (leaf .stopping 96)
     (s.chan 0).position.val = s.cfg.plugPoint 0 ∧ s.asserted (.cls 0) = false) := by
  repeat' apply And.intro
  all_goals decide +kernel

theorem wit_StepsDriveTheMotion :
    (let s := wants .opens (some 960) (leafAt (leaf .slideOpen 959))
     Moving 0 s ∧ Unhindered 0 s ∧ (s.chan 0).referenced = true ∧ (s.chan 0).position.val < s.cfg.openEnd 0 + 32 ∧
     (960 : Position).val = (s.chan 0).position.val + 1) ∧
    (let s := wants .opens (some 960) (leafAt (leaf .slideOpen 958))
     Moving 0 s ∧ Unhindered 0 s) ∧
    (let s := wants .opens (some 960) (leafAt (leaf .plugOut 95))
     Moving 0 s ∧ Unhindered 0 s ∧ (96 : Position).val = (s.chan 0).position.val + 1) ∧
    (let s := high (.cls 0) (leafAt (leaf .plugIn 7))
     Moving 0 s ∧ Unhindered 0 s ∧ (6 : Position).val = (s.chan 0).position.val - 1 ∧ 6 ≤ s.cfg.lockWindow 0 ∧
     s.asserted (.cls 0) = true ∧ s.asserted (.lks 0) = false) ∧
    (let s := high (.lks 0) (high (.cls 0) (leafAt (leaf .plugIn 7)))
     Moving 0 s ∧ Unhindered 0 s ∧ s.asserted (.lks 0) = true) ∧
    (let s := leafAt (leaf .slideClose 97)
     Moving 0 s ∧ Unhindered 0 s ∧ (96 : Position).val = (s.chan 0).position.val - 1) := by
  unfold Moving
  repeat' apply And.intro
  all_goals decide +kernel

theorem wit_ReliefEndsAfterItsSteps_closing :
    (let s := (leafAt (leaf .relief 300)).modGuard 0 (fun g => { g with stage := .single, reliefSteps := 39 })
     Moving 0 s ∧ Unhindered 0 s ∧ StepCounts s 0 .closing ∧ ¬ ClosedInSlide s 0 .closing ∧
     s.cfg.reliefSteps 0 ≤ (s.guard 0).reliefSteps + 1) ∧
    (let s := (unrefAt .relief).modGuard 0 (fun g => { g with stage := .single, reliefSteps := 38 })
     Moving 0 s ∧ Unhindered 0 s ∧ StepCounts s 0 .closing ∧ ¬ ClosedInSlide s 0 .closing ∧
     ¬ (s.cfg.reliefSteps 0 ≤ (s.guard 0).reliefSteps + 1)) ∧
    (let s := leafAt (leaf .relief 1)
     StepCounts s 0 .closing ∧ (stepTo s 0 .closing).val = 0) ∧
    (let s := leafAt (leaf .relief 96)
     StepCounts s 0 .opening ∧ ¬ ClosedInSlide s 0 .opening) := by
  unfold Moving StepCounts
  repeat' apply And.intro
  all_goals decide +kernel

theorem wit_ReliefEndsAfterItsSteps :
    (let s := (leafAt (leaf .relief 300)).modGuard 0 (fun g => { g with stage := .single, reliefSteps := 39 })
     Moving 0 s ∧ Unhindered 0 s ∧ (s.chan 0).state = .relief ∧ s.cfg.reliefSteps 0 ≤ (s.guard 0).reliefSteps + 1 ∧
     (301 : Position).val = (s.chan 0).position.val + 1) ∧
    (let s := leafAt (leaf .relief 959)
     Moving 0 s ∧ Unhindered 0 s ∧ s.cfg.openEnd 0 ≤ (960 : Position).val) ∧
    (let s := leafAt (leaf .relief 300)
     Moving 0 s ∧ ¬ (s.cfg.reliefSteps 0 ≤ (s.guard 0).reliefSteps + 1)) ∧
    (let s := (leafAt (leaf .relief 959)).modGuard 0 (fun g => { g with reopenCount := 4 })
     Moving 0 s ∧ s.cfg.reopenMax < (s.guard 0).reopenCount) := by
  unfold Moving
  repeat' apply And.intro
  all_goals decide +kernel

/-- The event told is the next one, and channel 0 is in RUN once it is taken. -/
abbrev takenInRun (c : Instr) (s : State) : Prop :=
  (told c s).running = true ∧ (told c s).takeSent c = some { s with sent := [] } ∧
  ({ s with sent := [] } : State).chanInRun 0 = true

theorem takenInRun_run0 (c : Instr) (s : State) (h1 : s.running = true)
    (h2 : ({ s with sent := [] } : State).chanInRun 0 = true) : takenInRun c s :=
  ⟨h1, takeSent_told c s, h2⟩

theorem wit_ChannelTakesTheRunEntry :
    takenInRun (.channelRunEntry 0) run0 ∧ takenInRun (.channelRunEntry 0) (leafAt (leaf .egress 300)) ∧
    takenInRun (.channelRunEntry 0) (high (.bflt 0) run0) ∧ (high (.bflt 0) run0).asserted (.bflt 0) = true ∧
    (run0.asserted (.bflt 0) = false ∧ (run0.demand 0).kind ≠ .egress) ∧
    (takenInRun (.channelRunEntry 0) (high (.cls 0) (high (.lks 0) run0)) ∧
      PairMade 0 (high (.cls 0) (high (.lks 0) run0)) ∧
      (referencedRecord 0 (high (.cls 0) (high (.lks 0) run0))).kind ≠ .opens) ∧
    (let s := opensBy26 (releasedLeft (high (.cls 0) (high (.lks 0) (unrefAt .unreferenced))))
     takenInRun (.channelRunEntry 0) s ∧ PairMade 0 s ∧ (referencedRecord 0 s).kind = .opens ∧
     referencedRecord 0 s ≠ s.demand 0) := by
  repeat' apply And.intro
  all_goals first | exact takeSent_told _ _ | decide +kernel

theorem wit_ClosedSwitchActsAtItsChannel :
    (∀ lv, takenInRun (.clsAcceptedAtChannel 0 lv) run0) ∧
    (Level.high = run0.cfg.activeLevel .switch ∧ Level.low ≠ run0.cfg.activeLevel .switch) ∧
    (let s := leafAt { Channel.start true .low .low with state := .referencing }
     Unhindered 0 s ∧ s.asserted (.lks 0) = false ∧ (referencedRecord 0 s).kind ≠ .opens) ∧
    (let s := opensBy26 (releasedLeft (unrefAt .referencing))
     Unhindered 0 s ∧ (referencedRecord 0 s).kind = .opens ∧ referencedRecord 0 s ≠ s.demand 0) ∧
    (let s := high (.lks 0) (leafAt { Channel.start true .low .low with state := .unreferenced })
     Unhindered 0 s ∧ s.asserted (.lks 0) = true ∧ (s.chan 0).referenced = false) ∧
    (let s := leafAt (leaf .plugIn 6)
     Unhindered 0 s ∧ (s.chan 0).position.val ≤ s.cfg.lockWindow 0 ∧ ¬ (s.cfg.plugPoint 0 < (s.chan 0).position.val)) ∧
    (let s := high (.lks 0) (leafAt (leaf .reseat 3))
     Unhindered 0 s ∧ (s.chan 0).state = .reseat) ∧
    (let s := leafAt (leaf .isOpen 96)
     Unhindered 0 s ∧ ¬ (s.cfg.plugPoint 0 < (s.chan 0).position.val) ∧ (s.chan 0).state ≠ .locked) := by
  refine ⟨fun lv => takenInRun_run0 _ _ (by decide +kernel) (by decide +kernel), ?_⟩
  repeat' apply And.intro
  all_goals decide +kernel

theorem wit_LockedSwitchActsAtItsChannel :
    (∀ lv, takenInRun (.lksAcceptedAtChannel 0 lv) run0) ∧
    (let s := high (.cls 0) (leafAt (leaf .locking 3))
     Unhindered 0 s ∧ s.asserted (.cls 0) = true ∧ (s.chan 0).state = .locking) ∧
    (let s := high (.cls 0) (leafAt { Channel.start true .low .low with state := .warning })
     Unhindered 0 s ∧ (s.chan 0).referenced = false ∧ (referencedRecord 0 s).kind ≠ .opens) ∧
    (let s := opensBy26 (releasedLeft (high (.cls 0) (unrefAt .unreferenced)))
     Unhindered 0 s ∧ (s.chan 0).referenced = false ∧ (referencedRecord 0 s).kind = .opens ∧
     referencedRecord 0 s ≠ s.demand 0) ∧
    (let s := high (.cls 0) (leafAt (leaf .plugOut 3))
     Unhindered 0 s ∧ ¬ ((s.chan 0).state = .locking ∨ (s.chan 0).state = .reseat)) ∧
    (let s := leafAt (leaf .unlocking 0)
     Unhindered 0 s ∧ s.asserted (.cls 0) = false) := by
  refine ⟨fun lv => takenInRun_run0 _ _ (by decide +kernel) (by decide +kernel), ?_⟩
  repeat' apply And.intro
  all_goals decide +kernel

theorem wit_ChannelWaitsEnd :
    (let s := leafAt { leaf .unlocking 0 with unlock := some (.pause, 10) }
     Moving 0 s ∧ s.asserted (.bflt 0) = false ∧ (s.chan 0).unlock = some (.pause, 10)) ∧
    (let s := leafAt { leaf .locking 3 with lockWait := some 40 }
     Moving 0 s ∧ (s.chan 0).lockWait ≠ none ∧ (s.chan 0).state = .locking) ∧
    (let s := wants .opens (some 312) (leafAt { leaf .stopping 300 with pause := some 15 })
     Moving 0 s ∧ Unhindered 0 s ∧ (s.chan 0).pause ≠ none ∧ (s.demand 0).target = some 312) ∧
    (let s := leafAt { leaf .stopping 300 with pause := some 15 }
     Moving 0 s ∧ (s.demand 0).kind = .closes) ∧
    (let s := wants .opens (some 313) (leafAt { leaf .openBlocked 300 with retryWait := some 10 })
     Moving 0 s ∧ (s.chan 0).retryWait ≠ none) ∧
    (Moving 0 run0 ∧ (run0.chan 0).unlock = none ∧ (run0.chan 0).lockWait = none ∧ (run0.chan 0).pause = none ∧
      (run0.chan 0).retryWait = none) := by
  unfold Moving
  repeat' apply And.intro
  all_goals decide +kernel

/-- A leaf in WARNING, its interval running. -/
def warned (p : Position) : State := leafAt { leaf .warning p with warn := some 20 }

/-- The same, with an unreferenced leaf. -/
def warnedUnref : State := leafAt { Channel.start true .low .low with state := .warning, warn := some 20 }

/-- BLANK_STEPS of doorway 0 set to 0. -/
def unblanked (s : State) : State := { s with cfg := s.cfg.patch (doorOffset 0 + 46) [0#8] }

theorem wit_WarningEndsInClosing_detections :
    (let s := high (.edge 0) (warned 25)
     Moving 0 s ∧ s.asserted (.bflt 0) = false ∧ edgeSees s 0 .plugIn 25 = true) ∧
    (let s := high (.edge 0) (warned 24)
     Moving 0 s ∧ edgeSees s 0 .plugIn 24 = false) ∧
    (let s := high (.frc 0) (unblanked (warned 300))
     Moving 0 s ∧ Strained 0 s ∧ RoomToRelieve 0 s) ∧
    (let s := high (.frc 0) (warned 300)
     Moving 0 s ∧ ¬ Strained 0 s) ∧
    (let s := high (.edge 0) (warned 960)
     Moving 0 s ∧ ¬ RoomToRelieve 0 s ∧ ∀ tg ∈ (s.demand 0).target, tg ≤ s.cfg.openEnd 0) ∧
    (let s := high (.edge 0) warnedUnref
     Moving 0 s ∧ s.asserted (.cls 0) = false ∧ edgeSees s 0 .referencing 0 = true) ∧
    (let s := high (.cls 0) warnedUnref
     Moving 0 s ∧ s.asserted (.lks 0) = false ∧ ¬ Strained 0 s) ∧
    (let s := opensBy26 (releasedLeft (high (.cls 0) warnedUnref))
     Moving 0 s ∧ (referencedRecord 0 s).kind = .opens ∧ referencedRecord 0 s ≠ s.demand 0) := by
  unfold Moving
  repeat' apply And.intro
  all_goals decide +kernel

theorem wit_WarningEndsInClosing :
    (let s := high (.cls 0) (leafAt { leaf .warning 6 with warn := some 20 })
     Moving 0 s ∧ Unhindered 0 s ∧ (s.chan 0).warn ≠ none ∧ (s.chan 0).position.val ≤ s.cfg.lockWindow 0) ∧
    (let s := leafAt { leaf .warning 97 with warn := some 20 }
     Moving 0 s ∧ Unhindered 0 s ∧ s.cfg.plugPoint 0 < (s.chan 0).position.val) ∧
    (let s := leafAt { Channel.start true .low .low with state := .warning, warn := some 20 }
     Moving 0 s ∧ (s.chan 0).referenced = false ∧ s.asserted (.cls 0) = false) ∧
    (let s := high (.lks 0) (high (.cls 0)
        (leafAt { Channel.start true .low .low with state := .warning, warn := some 20 }))
     Moving 0 s ∧ Unhindered 0 s ∧ PairMade 0 s ∧ (referencedRecord 0 s).kind ≠ .opens) ∧
    (Moving 0 run0 ∧ (run0.chan 0).warn = none) := by
  unfold Moving
  repeat' apply And.intro
  all_goals decide +kernel

theorem wit_DetectionsRelieveOrBlock :
    (∀ lv, takenInRun (.edgeAcceptedAtGuard 0 lv) run0 ∧ takenInRun (.frcAcceptedAtGuard 0 lv) run0) ∧
    (Level.high = run0.cfg.activeLevel .edge ∧ Level.high = run0.cfg.activeLevel .drive) ∧
    (let s := leafAt (leaf .plugIn 25)
     s.asserted (.bflt 0) = false ∧ s.cfg.edgeMute 0 < (s.chan 0).position.val ∧ RoomToRelieve 0 s) ∧
    (let s := leafAt (leaf .plugIn 24)
     ¬ (s.cfg.edgeMute 0 < (s.chan 0).position.val)) ∧
    (let s := (leafAt (leaf .slideClose 959)).modGuard 0 (fun g => { g with blank := 8, stage := .warn })
     s.cfg.blankSteps 0 ≤ (s.guard 0).blank ∧ RoomToRelieve 0 s ∧ (s.guard 0).stage = .warn) ∧
    (let s := wants .opens (some 960) ((leafAt (leaf .slideOpen 948)).modGuard 0 (fun g => { g with stage := .warn }))
     s.chanInRun 0 = true ∧ (s.demand 0).target = some 960 ∧ 960 ≤ (s.chan 0).position.val + s.cfg.endWindow 0) ∧
    (let s := wants .opens (some 961) ((leafAt (leaf .slideOpen 948)).modGuard 0 (fun g => { g with
        stage := .warn, openRetry := 2 }))
     s.chanInRun 0 = true ∧ ¬ (961 ≤ (s.chan 0).position.val + s.cfg.endWindow 0)) := by
  refine ⟨fun lv => ⟨takenInRun_run0 _ _ (by decide +kernel) (by decide +kernel),
    takenInRun_run0 _ _ (by decide +kernel) (by decide +kernel)⟩, ?_⟩
  repeat' apply And.intro
  all_goals decide +kernel

theorem wit_DetectionsRelieveOrBlock_steps :
    (let s := high (.edge 0) (leafAt (leaf .plugIn 24))
     s.chanInRun 0 = true ∧ s.asserted (.bflt 0) = false ∧ StepCounts s 0 .opening ∧
     ¬ ClosedInSlide s 0 .opening ∧ edgeSees s 0 .plugIn 24 = false ∧ (stepTo s 0 .opening).val = 25 ∧
     edgeSees s 0 (phaseAt s 0 .plugIn 25) 25 = true ∧ ¬ ReachesLockZone s 0 25 ∧ ¬ ReachesTarget s 0 25) ∧
    (let s := (high (.frc 0) (leafAt (leaf .slideClose 300))).modGuard 0 (fun g => { g with blank := 7 })
     StepCounts s 0 .closing ∧ ¬ ClosedInSlide s 0 .closing ∧ (s.guard 0).blank + 1 = s.cfg.blankSteps 0 ∧
     ¬ ReachesLockZone s 0 299 ∧ ¬ ReachesTarget s 0 299) ∧
    (let s := wants .opens (some 960)
        ((high (.frc 0) (leafAt (leaf .slideOpen 958))).modGuard 0 (fun g => { g with blank := 7 }))
     StepCounts s 0 .opening ∧ ¬ ClosedInSlide s 0 .opening ∧ (s.guard 0).blank + 1 = s.cfg.blankSteps 0 ∧
     (stepTo s 0 .opening).val = 959 ∧ ¬ ReachesTarget s 0 959) := by
  unfold StepCounts
  repeat' apply And.intro
  all_goals decide +kernel

theorem wit_DetectionsRelieveOrBlock_beginnings :
    (let s := high (.frc 0) (unblanked (leafAt (leaf .unlocking 0)))
     takenInRun (.lksAcceptedAtChannel 0 .low) s ∧ Strained 0 s ∧ Level.low ≠ s.cfg.activeLevel .switch) ∧
    (let s := wants .opens (some 313) (high (.frc 0) (unblanked (leafAt { leaf .stopping 300 with pause := some 15 })))
     Strained 0 s ∧ s.chanInRun 0 = true ∧ (s.chan 0).pause ≠ none ∧ (s.demand 0).target = some 313 ∧
     (s.chan 0).position.val + s.cfg.endWindow 0 < 313) ∧
    (let s := wants .opens (some 313)
        (high (.frc 0) (unblanked (leafAt { leaf .openBlocked 300 with retryWait := some 10 })))
     Strained 0 s ∧ s.chanInRun 0 = true ∧ (s.chan 0).retryWait ≠ none) ∧
    (let s := leafAt (leaf .slideClose 960)
     ¬ RoomToRelieve 0 s ∧ ∀ tg ∈ (s.demand 0).target, tg ≤ s.cfg.openEnd 0) := by
  repeat' apply And.intro
  all_goals first | exact takeSent_told _ _ | decide +kernel

theorem wit_StallIntervalBoostsTheDrive :
    (let s := (leafAt { leaf .slideOpen 300 with drive := .driveOpen 231#8 }).modGuard 0
        (fun g => { g with stage := .normal })
     Moving 0 s ∧ Unhindered 0 s ∧ (s.guard 0).stage = .normal) ∧
    (let s := (leafAt (leaf .relief 300)).modGuard 0 (fun g => { g with stage := .single })
     Moving 0 s ∧ Unhindered 0 s ∧ (s.guard 0).stage = .single) ∧
    (let s := leafAt { Channel.start true .low .low with state := .referencing }
     Moving 0 s ∧ Unhindered 0 s ∧ (s.chan 0).referenced = false ∧ (s.guard 0).stage = .idle) := by
  unfold Moving
  repeat' apply And.intro
  all_goals decide +kernel

/-- A cause that a command from outside finds at channel 0 of a running part. -/
abbrev foundOutside (c : Instr) (cause : FaultCause) (s : State) : Prop :=
  s.running = true ∧ route c = none ∧ s.chanInRun 0 = true ∧ FindsCause c 0 cause s

theorem wit_FaultCausesEnterFaulted_outside :
    foundOutside (.illegalTransition 0) .encoder run0 ∧
    foundOutside (.encoderStep 0 .opening) .range (leafAt (leaf .slideOpen 992)) ∧
    foundOutside (.encoderStep 0 .closing) .range (leafAt (leaf .plugIn 0)) ∧
    foundOutside (.unlockWaitExpiry 0) .unlock (leafAt { leaf .unlocking 0 with unlock := some (.second, 30) }) ∧
    foundOutside (.lockWaitExpiry 0) .lock (leafAt { leaf .reseat 3 with lockWait := some 40 }) ∧
    foundOutside (.plausibilityTimerExpiry 0) (.switch .lockedWithoutClosed)
      (leafAt { leaf .isOpen 300 with plaus := some 10 }) ∧
    foundOutside (.travelTimerExpiry 0) (.travel .closing)
      (leafAt { leaf .slideClose 300 with travel := some (.closing, 60) }) := by
  refine ⟨?_, ?_, ?_, ?_, ?_, ?_, ?_⟩
  · exact ⟨by decide +kernel, by decide, by decide +kernel, .inl ⟨rfl, rfl⟩⟩
  · exact ⟨by decide +kernel, by decide, by decide +kernel, .inr (.inl ⟨.opening, rfl, rfl, by decide +kernel⟩)⟩
  · exact ⟨by decide +kernel, by decide, by decide +kernel, .inr (.inl ⟨.closing, rfl, rfl, by decide +kernel⟩)⟩
  · exact ⟨by decide +kernel, by decide, by decide +kernel, .inr (.inr (.inr (.inl ⟨rfl, rfl, by decide +kernel⟩)))⟩
  · exact ⟨by decide +kernel, by decide, by decide +kernel,
      .inr (.inr (.inr (.inr (.inl ⟨rfl, rfl, by decide +kernel⟩))))⟩
  · exact ⟨by decide +kernel, by decide, by decide +kernel,
      .inr (.inr (.inr (.inr (.inr (.inr (.inr (.inr (.inl ⟨rfl, rfl, by decide +kernel⟩))))))))⟩
  · exact ⟨by decide +kernel, by decide, by decide +kernel,
      .inr (.inr (.inr (.inr (.inr (.inr (.inr (.inr (.inr ⟨.closing, rfl, rfl, by decide +kernel⟩))))))))⟩

theorem wit_FaultCausesEnterFaulted_lines :
    (∀ lv, takenInRun (.bfltAcceptedAtChannel 0 lv) run0 ∧ takenInRun (.clsAcceptedAtChannel 0 lv) run0 ∧
      takenInRun (.lksAcceptedAtChannel 0 lv) run0) ∧
    FindsCause (.bfltAcceptedAtChannel 0 .high) 0 .bridge (leafAt { leaf .isOpen 300 with drive := .brake }) ∧
    FindsCause (.clsAcceptedAtChannel 0 .low) 0 (.lockLost .closed) (leafAt (leaf .locked 0)) ∧
    FindsCause (.lksAcceptedAtChannel 0 .low) 0 (.lockLost .locked) (leafAt (leaf .locked 0)) ∧
    FindsCause (.clsAcceptedAtChannel 0 .high) 0 (.switch .closedInSlide) (leafAt (leaf .slideOpen 97)) ∧
    (run0.chan 0).drive = .free ∧ (run0.chan 0).travel = none ∧ (run0.chan 0).plaus = none ∧
    State.reset.chanInRun 0 = false := by
  refine ⟨fun lv => ⟨takenInRun_run0 _ _ (by decide +kernel) (by decide +kernel),
    takenInRun_run0 _ _ (by decide +kernel) (by decide +kernel),
    takenInRun_run0 _ _ (by decide +kernel) (by decide +kernel)⟩, ?_, ?_, ?_, ?_, ?_⟩
  · exact .inr (.inr (.inl ⟨.high, rfl, rfl, by decide +kernel⟩))
  · exact .inr (.inr (.inr (.inr (.inr (.inl ⟨.low, rfl, rfl, by decide +kernel⟩)))))
  · exact .inr (.inr (.inr (.inr (.inr (.inr (.inl ⟨.low, rfl, rfl, by decide +kernel⟩))))))
  · exact .inr (.inr (.inr (.inr (.inr (.inr (.inr (.inl ⟨.high, rfl, rfl, by decide +kernel⟩)))))))
  · decide +kernel

/-- Channel 0 of a running part with its bridge fault line asserted, no record and neither EGRESS nor FAULTED. -/
abbrev bridgeWaits (s : State) : Prop :=
  s.running = true ∧ s.chanInRun 0 = true ∧ (s.chan 0).fault = none ∧ (s.chan 0).state ≠ .egress ∧
  (s.chan 0).state ≠ .faulted ∧ s.asserted (.bflt 0) = true

theorem wit_FaultCausesEnterFaulted_entries :
    (let s := high (.bflt 0) (warned 97)
     bridgeWaits s ∧ ∃ v, EntersDriven (.warningIntervalExpiry 0) 0 s v) ∧
    (let s := high (.bflt 0) (leafAt { leaf .stopping 300 with pause := some 15 })
     bridgeWaits s ∧ ∃ v, EntersDriven (.reversalPauseExpiry 0) 0 s v) ∧
    (let s := high (.bflt 0) (wants .opens (some 313) (leafAt { leaf .openBlocked 300 with retryWait := some 10 }))
     bridgeWaits s ∧ ∃ v, EntersDriven (.retryWaitExpiry 0) 0 s v) ∧
    (let s := high (.bflt 0) (leafAt { leaf .locking 3 with lockWait := some 40 })
     bridgeWaits s ∧ ∃ v, EntersDriven (.lockWaitExpiry 0) 0 s v) ∧
    (let s := high (.bflt 0) (wants .opens (some 960) (leafAt (leaf .plugOut 95)))
     bridgeWaits s ∧ ∃ v, EntersDriven (.encoderStep 0 .opening) 0 s v) := by
  refine ⟨⟨by decide +kernel, _, .inl ⟨rfl, by decide +kernel, rfl⟩⟩,
    ⟨by decide +kernel, _, .inr (.inl ⟨rfl, by decide +kernel, by decide +kernel, rfl⟩)⟩,
    ⟨by decide +kernel, _, .inr (.inr (.inl ⟨313, by decide +kernel, by decide +kernel, rfl,
      .inr ⟨rfl, by decide +kernel⟩⟩))⟩,
    ⟨by decide +kernel, _, .inr (.inr (.inr (.inl ⟨rfl, by decide +kernel, by decide +kernel, rfl⟩)))⟩,
    ⟨by decide +kernel, _, .inr (.inr (.inr (.inr (.inr (.inr (.inr (.inr
      ⟨.opening, rfl, ?_, by decide +kernel, by decide +kernel, by decide +kernel, rfl⟩)))))))⟩⟩
  unfold StepCounts; decide +kernel

theorem wit_FaultCausesEnterFaulted_lineEntries :
    (let s := high (.bflt 0) (leafAt (leaf .unlocking 0))
     takenInRun (.lksAcceptedAtChannel 0 .low) s ∧ bridgeWaits s ∧
     ∃ v, EntersDriven (.lksAcceptedAtChannel 0 .low) 0 s v) ∧
    (let s := high (.bflt 0) (leafAt (leaf .plugIn 6))
     takenInRun (.clsAcceptedAtChannel 0 .high) s ∧ bridgeWaits s ∧
     ∃ v, EntersDriven (.clsAcceptedAtChannel 0 .high) 0 s v) ∧
    (let s := high (.bflt 0) (leafAt (leaf .plugIn 25))
     takenInRun (.edgeAcceptedAtGuard 0 .high) s ∧ bridgeWaits s ∧
     ∃ v, EntersDriven (.edgeAcceptedAtGuard 0 .high) 0 s v) ∧
    (let s := (high (.bflt 0) (leafAt (leaf .slideOpen 300))).modGuard 0 (fun g => { g with
        blank := 8, openRetry := 2 })
     takenInRun (.frcAcceptedAtGuard 0 .high) s ∧ bridgeWaits s ∧
     ∃ v, EntersDriven (.frcAcceptedAtGuard 0 .high) 0 s v) := by
  refine ⟨⟨takenInRun_run0 _ _ (by decide +kernel) (by decide +kernel), by decide +kernel, _,
      .inr (.inr (.inr (.inr (.inl ⟨.low, rfl, by decide +kernel, by decide +kernel, rfl⟩))))⟩,
    ⟨takenInRun_run0 _ _ (by decide +kernel) (by decide +kernel), by decide +kernel, _,
      .inr (.inr (.inr (.inr (.inr (.inl ⟨.high, rfl, by decide +kernel, by decide +kernel, by decide +kernel,
        by decide +kernel, rfl⟩)))))⟩,
    ⟨takenInRun_run0 _ _ (by decide +kernel) (by decide +kernel), by decide +kernel, _,
      .inr (.inr (.inr (.inr (.inr (.inr (.inl ⟨.high, rfl, by decide +kernel, by decide +kernel, rfl⟩))))))⟩,
    ⟨takenInRun_run0 _ _ (by decide +kernel) (by decide +kernel), by decide +kernel, _,
      .inr (.inr (.inr (.inr (.inr (.inr (.inr (.inl ⟨.high, rfl, by decide +kernel, by decide +kernel,
        .inr ⟨.inr (by decide +kernel), rfl⟩⟩)))))))⟩⟩

theorem wit_FaultCausesEnterFaulted_geometry :
    (let s := high (.cls 0) (leafAt (leaf .stopping 96))
     s.running = true ∧ s.chanInRun 0 = true ∧ (s.chan 0).fault = none ∧
     ∃ v, StepsIntoSlide (.encoderStep 0 .opening) 0 s v) := by
  refine ⟨by decide +kernel, by decide +kernel, by decide +kernel, _, rfl, by decide +kernel, ?_, by decide +kernel,
    by decide +kernel, by decide +kernel, by decide +kernel, rfl⟩
  unfold StepCounts; decide +kernel

/-- A fault record is absent, the bridge fault line asserted, and a delivered record takes channel 0 into a state
that brakes or drives. -/
abbrev bridgeWaitsRecord (s : State) : Prop :=
  s.chanInRun 0 = true ∧ (s.chan 0).fault = none ∧ s.asserted (.bflt 0) = true ∧ s.resolve 0 ≠ s.demand 0

theorem wit_FaultCausesEnterFaulted_records :
    (let s := high (.bflt 0) ((unrefAt .unreferenced).setHold 26 (poolHold 26 .atd .closes 2))
     bridgeWaitsRecord s ∧ ∃ v, EntersByRecord 0 s v) ∧
    (let s := high (.bflt 0) (egressEnds (unrefAt .egress))
     bridgeWaitsRecord s ∧ ∃ v, EntersByRecord 0 s v) ∧
    (let s := high (.bflt 0) (opensNow .locked 0)
     bridgeWaitsRecord s ∧ ∃ v, EntersByRecord 0 s v) ∧
    (let s := high (.bflt 0) (opensNow .slideClose 300)
     bridgeWaitsRecord s ∧ ∃ v, EntersByRecord 0 s v) ∧
    (let s := high (.bflt 0) (opensNow .reseat 3)
     bridgeWaitsRecord s ∧ ∃ v, EntersByRecord 0 s v) ∧
    (let s := high (.bflt 0) (opensNow .standing 300)
     bridgeWaitsRecord s ∧ ∃ v, EntersByRecord 0 s v) ∧
    (let s := high (.bflt 0) (closesNow .plugOut)
     bridgeWaitsRecord s ∧ ∃ v, EntersByRecord 0 s v) ∧
    (let s := high (.bflt 0) (closesNow .isOpen)
     bridgeWaitsRecord s ∧ ∃ v, EntersByRecord 0 s v) ∧
    (let s := high (.bflt 0) (closesNow .openBlocked)
     bridgeWaitsRecord s ∧ ∃ v, EntersByRecord 0 s v) := by
  refine ⟨⟨by decide +kernel, _, ?_, .inl ⟨?_, ?_, ?_, rfl⟩⟩, ⟨by decide +kernel, _, ?_, .inl ⟨?_, ?_, ?_, rfl⟩⟩,
    ⟨by decide +kernel, _, ?_, .inr (.inl ⟨?_, ?_, .inl ⟨?_, rfl⟩⟩)⟩,
    ⟨by decide +kernel, _, ?_, .inr (.inl ⟨?_, ?_, .inr (.inl ⟨?_, rfl⟩)⟩)⟩,
    ⟨by decide +kernel, _, ?_, .inr (.inl ⟨?_, ?_, .inr (.inr (.inl ⟨?_, rfl⟩))⟩)⟩,
    ⟨by decide +kernel, _, ?_, .inr (.inl ⟨?_, ?_, .inr (.inr (.inr ⟨960, ?_, rfl, ?_⟩))⟩)⟩,
    ⟨by decide +kernel, _, ?_, .inr (.inr ⟨?_, ?_, .inl ⟨?_, rfl⟩⟩)⟩,
    ⟨by decide +kernel, _, ?_, .inr (.inr ⟨?_, ?_, .inr (.inl ⟨?_, rfl⟩)⟩)⟩,
    ⟨by decide +kernel, _, ?_, .inr (.inr ⟨?_, ?_, .inr (.inr ⟨?_, rfl⟩)⟩)⟩⟩
  all_goals decide +kernel

/-! The Car Loop Unit -/

theorem wit_ProvenFlagsDriveTheStage :
    (let x : CluDoor := { seven.cluDoor 0 with cls := .high }
     takenInRun (.provenFlagUpdate 0 .closed .high) seven ∧ seven.fitted 0 = true ∧
     x.cls = seven.cfg.activeLevel .switch ∧ x.lks = seven.cfg.activeLevel .switch ∧ x.chState = .locked ∧
     ∀ e : Door, seven.fitted e = true → e ≠ 0 → (seven.cluDoor e).proven = true) ∧
    takenInRun (.provenFlagUpdate 0 .locked .low) seven ∧ takenInRun (.channelStateAtClu 0 .unlocking) seven ∧
    (seven.mode = .run ∧ seven.clu.stage = .unproven ∧ State.reset.mode = .configure) := by
  repeat' apply And.intro
  all_goals first | exact takeSent_told _ _ | decide +kernel

theorem wit_LoopClosesAndMovingIsMarked :
    (let s := { seven with clu := { seven.clu with stage := .proving, timer := some 20 } }
     s.running = true ∧ s.clu.stage = .proving ∧ s.clu.loop = false) ∧
    (∀ lv, (told (.zspdAtClu lv) run0).takeSent (.zspdAtClu lv) = some { run0 with sent := [] }) ∧
    (run0.mode = .run ∧ State.reset.mode = .configure ∧ Level.high = run0.cfg.activeLevel .release ∧
      run0.clu.loop = false) :=
  ⟨by decide +kernel, fun _ => takeSent_told _ _, by decide +kernel⟩

/-! The invariants hold in states of RUN other than the reset state, and such a state steps. -/

theorem wit_StepsKeepTheTable :
    TableOk (holding 26 .atd .closes 2) ∧ QuotasOk (filled 24 .trn) ∧
    ∃ t, step (holding 26 .atd .closes 2) = .next t :=
  ⟨by unfold TableOk; decide +kernel, by unfold QuotasOk; decide +kernel, _, rfl⟩

theorem wit_StepsKeepConfigureQuiet : ConfigureQuiet keyed ∧ ∃ t, step keyed = .next t :=
  ⟨by unfold ConfigureQuiet doorQuiet; decide +kernel, _, rfl⟩

theorem wit_StepsKeepTheLoopSafe :
    let s := { seven with clu := { seven.clu with stage := .proven, loop := true } }.setCluDoor 0
      { cls := .high, lks := .high, chState := .locked, proven := true }
    LoopOk s ∧ ∃ t, step s = .next t :=
  ⟨by unfold LoopOk; decide +kernel, _, rfl⟩

theorem wit_StepsKeepTheLink : LinkOk presenceBody ∧ LinkOk (busyFull .t) ∧ ∃ t, step presenceBody = .next t := by
  refine ⟨⟨⟨by decide +kernel, by decide +kernel, ?_⟩, ⟨by decide +kernel, by decide +kernel, ?_⟩, ?_, ?_⟩,
    ⟨⟨by decide +kernel, by decide +kernel, ?_⟩, ⟨by decide +kernel, by decide +kernel, ?_⟩, ?_, ?_⟩, _, rfl⟩
  · intro _ h; cases h; decide +kernel
  · intro _ h; cases h
  · intro _ h; cases h
  · exact ⟨fun h => (by cases h), fun ⟨_, h⟩ => (by cases h)⟩
  · intro _ h; cases h
  · intro _ h; cases h
  · intro _ h; cases h
  · exact ⟨fun h => (by cases h), fun ⟨_, h⟩ => (by cases h)⟩

theorem wit_StepsKeepTheOutputs :
    let s := leafAt { leaf .isOpen 300 with drive := .brake }
    SignalsOk s ∧ OutputsOk s ∧ ∃ t, step s = .next t :=
  ⟨by unfold SignalsOk; decide +kernel,
   ⟨by unfold ConfigureQuiet doorQuiet; decide +kernel, by unfold outputsFit entryWaits; decide +kernel⟩, _, rfl⟩

theorem wit_StepsKeepTheDemands : DemandsOk run0 ∧ ∃ t, step run0 = .next t :=
  ⟨⟨by unfold TableOk; decide +kernel, by unfold ConfigureQuiet doorQuiet; decide +kernel,
    by unfold doorObeys entryWaits; decide +kernel⟩, _, rfl⟩

theorem wit_StepsKeepTheObstructionRecords :
    let s := (leafAt (leaf .standing 300)).modGuard 0 (fun g => { g with reopenCount := 4, lastCause := some .edge })
    ObstructionOk s ∧ ∃ t, step s = .next t :=
  ⟨⟨by unfold ConfigureQuiet doorQuiet; decide +kernel, by unfold guardOk; decide +kernel⟩, _, rfl⟩

theorem wit_StepsKeepTheConfiguration :
    let s := { run0 with cfg := noneFitted, stored := shortBad.stored }
    ConfigOk s ∧ ∃ t, step s = .next t :=
  ⟨⟨by unfold imageOk; decide +kernel, fun _ h => (by cases h), fun h => absurd h (by decide +kernel)⟩, _, rfl⟩

end Sys2Proof.Tests
end

section
/-! SUPPORT. What every operation of a channel and its guard section keeps: a set of states that is closed under the
few ways in which a doorway writes (ChannelClosed) is closed under every operation of Machine/Channel.lean,
Machine/Motion.lean and Machine/Sensing.lean. -/

namespace Sys2Proof.Machine

/-- The events that channel d and its guard section send (R72, R87). -/
inductive ChannelSends (d : Door) : Instr → Prop where
  | countdownStart : ChannelSends d (.countdownStart d)
  | channelEntry (e : EntryKind) : ChannelSends d (.channelEntryAtTable d e)
  | channelState (st : ChState) : ChannelSends d (.channelStateAtClu d st)
  | grdPlacement (cfg : Image) (p : Position) : ChannelSends d (.internalPlacement (grdPlacement cfg d p))

/-- The notices that a channel raises (R172). -/
inductive ChannelRaises : NoticeKind → Prop where
  | standing : ChannelRaises .standing
  | fault : ChannelRaises .fault

/-- The states of P are closed under the ways in which channel d and its guard section write. -/
structure ChannelClosed (d : Door) (P : Set State) : Prop where
  modChan : ∀ s f, s ∈ P → s.modChan d f ∈ P
  modGuard : ∀ s f, s ∈ P → s.modGuard d f ∈ P
  setDemand : ∀ s r, s ∈ P → s.setDemand d r ∈ P
  dropGrd : ∀ s, s ∈ P → s.dropGrd d ∈ P
  send : ∀ s c, ChannelSends d c → s ∈ P → s.send c ∈ P
  raiseDoor : ∀ s k, ChannelRaises k → s ∈ P → s.raiseDoor k d ∈ P

theorem ite_mem {P : Set State} (b : Bool) {s t : State} (hs : s ∈ P) (ht : t ∈ P) :
    (if b = true then s else t) ∈ P := by
  cases b
  · exact ht
  · exact hs

section Operations
variable {d : Door} {P : Set State} (h : ChannelClosed d P) {s : State} (hs : s ∈ P)
include h hs

/-! ### The named updates -/

@[simp] theorem mem_modChan (f : Channel → Channel) : s.modChan d f ∈ P := h.modChan s f hs
@[simp] theorem mem_modGuard (f : Guard → Guard) : s.modGuard d f ∈ P := h.modGuard s f hs
@[simp] theorem mem_setDemand (r : Demand) : s.setDemand d r ∈ P := h.setDemand s r hs
@[simp] theorem mem_dropGrd : s.dropGrd d ∈ P := h.dropGrd s hs
@[simp] theorem mem_send_countdownStart : s.send (.countdownStart d) ∈ P := h.send s _ .countdownStart hs
@[simp] theorem mem_send_channelEntry (e : EntryKind) : s.send (.channelEntryAtTable d e) ∈ P :=
  h.send s _ (.channelEntry e) hs
@[simp] theorem mem_send_channelState (st : ChState) : s.send (.channelStateAtClu d st) ∈ P :=
  h.send s _ (.channelState st) hs
@[simp] theorem mem_send_grdPlacement (cfg : Image) (p : Position) :
    s.send (.internalPlacement (grdPlacement cfg d p)) ∈ P := h.send s _ (.grdPlacement cfg p) hs
@[simp] theorem mem_raiseDoor_standing : s.raiseDoor .standing d ∈ P := h.raiseDoor s _ .standing hs
@[simp] theorem mem_raiseDoor_fault : s.raiseDoor .fault d ∈ P := h.raiseDoor s _ .fault hs

/-! ### Entries and faults -/

@[simp] theorem mem_enterState (st : ChState) (dr : Drive) (sol : Bool) (lamp : Lamp) :
    enterState d st dr sol lamp s ∈ P := h.modGuard _ _ (h.modChan _ _ hs)
@[simp] theorem mem_clearReferenced : clearReferenced d s ∈ P := by
  unfold clearReferenced; dsimp only; split <;> simp (maxDischargeDepth := 12) [h, hs]
@[simp] theorem mem_enterFaulted : enterFaulted d s ∈ P := by
  simp (maxDischargeDepth := 12) [enterFaulted, h, hs]
@[simp] theorem mem_detectCause (f : FaultCause) : detectCause d f s ∈ P := by
  unfold detectCause; dsimp only; split <;> simp (maxDischargeDepth := 12) [h, hs]
@[simp] theorem mem_bridgeCheck : bridgeCheck d s ∈ P := by
  unfold bridgeCheck; split <;> simp (maxDischargeDepth := 12) [h, hs]
@[simp] theorem mem_startPlaus : startPlaus d s ∈ P := by
  unfold startPlaus; split <;> simp (maxDischargeDepth := 12) [h, hs]

/-! ### Opening -/

@[simp] theorem mem_enterOpen : enterOpen d s ∈ P := by
  simp (maxDischargeDepth := 12) [enterOpen, h, hs]
@[simp] theorem mem_openingObstruction : openingObstruction d s ∈ P := by
  unfold openingObstruction; dsimp only; split <;> simp (maxDischargeDepth := 12) [h, hs]
@[simp] theorem mem_beginOpening (sl : Bool) : beginOpening d sl s ∈ P := by
  unfold beginOpening; dsimp only; split <;> simp (maxDischargeDepth := 12) [h, hs]
@[simp] theorem mem_openByPosition : openByPosition d s ∈ P := by
  unfold openByPosition; dsimp only; repeat' split
  all_goals simp (maxDischargeDepth := 12) [h, hs]

/-! ### Locking and referencing -/

@[simp] theorem mem_enterUnlocking : enterUnlocking d s ∈ P := by
  unfold enterUnlocking; dsimp only; split <;> simp (maxDischargeDepth := 12) [h, hs]
@[simp] theorem mem_enterLocked : enterLocked d s ∈ P := by
  simp (maxDischargeDepth := 12) [enterLocked, h, hs]
@[simp] theorem mem_enterLocking : enterLocking d s ∈ P := by
  unfold enterLocking; dsimp only; split <;> simp (maxDischargeDepth := 12) [h, hs]
@[simp] theorem mem_enterReseat : enterReseat d s ∈ P := by
  simp (maxDischargeDepth := 12) [enterReseat, h, hs]
@[simp] theorem mem_takeReference (press : Bool) : takeReference d press s ∈ P := by
  have h1 := mem_modGuard h (mem_modChan h hs (fun c => { c.setPos 0 with referenced := true })) Guard.zeroRetry
  have h2 := ite_mem press (mem_enterLocking h h1) (mem_enterLocked h h1)
  unfold takeReference; dsimp only
  revert h2
  generalize (if press = true then _ else _ : State) = s2
  intro h2
  repeat' split
  all_goals simp (maxDischargeDepth := 12) [h, h2]

/-! ### Closing -/

@[simp] theorem mem_enterWarning : enterWarning d s ∈ P := by
  simp (maxDischargeDepth := 12) [enterWarning, h, hs]
@[simp] theorem mem_enterStopping : enterStopping d s ∈ P := by
  simp (maxDischargeDepth := 12) [enterStopping, h, hs]
@[simp] theorem mem_enterStanding : enterStanding d s ∈ P := by
  simp (maxDischargeDepth := 12) [enterStanding, h, hs]
@[simp] theorem mem_enterEgress : enterEgress d s ∈ P := by
  simp (maxDischargeDepth := 12) [enterEgress, h, hs]
@[simp] theorem mem_endRelief : endRelief d s ∈ P := by
  unfold endRelief; repeat' split
  all_goals simp (maxDischargeDepth := 12) [h, hs]
@[simp] theorem mem_enterRelief : enterRelief d s ∈ P := by
  unfold enterRelief; dsimp only; split <;> simp (maxDischargeDepth := 12) [h, hs]
@[simp] theorem mem_closingDetection (c : ObsCause) : closingDetection d c s ∈ P := by
  unfold closingDetection; dsimp only; split <;> simp (maxDischargeDepth := 12) [h, hs]
@[simp] theorem mem_forceDetection : forceDetection d s ∈ P := by
  unfold forceDetection; split <;> simp (maxDischargeDepth := 12) [h, hs]
@[simp] theorem mem_senseAtStart : senseAtStart d s ∈ P := by
  unfold senseAtStart; repeat' split
  all_goals simp (maxDischargeDepth := 12) [h, hs]
@[simp] theorem mem_beginClosing : beginClosing d s ∈ P := by
  unfold beginClosing; dsimp only; split <;> simp (maxDischargeDepth := 12) [h, hs]
@[simp] theorem mem_endReferencing : endReferencing d s ∈ P := mem_takeReference h hs _
@[simp] theorem mem_enterReferencing : enterReferencing d s ∈ P := by
  unfold enterReferencing; dsimp only; repeat' split
  all_goals simp (maxDischargeDepth := 12) [h, hs]

/-! ### UNREFERENCED, EGRESS and the reaction to a record -/

@[simp] theorem mem_actUnreferenced : actUnreferenced d s ∈ P := by
  unfold actUnreferenced; dsimp only; repeat' split
  all_goals simp (maxDischargeDepth := 12) [h, hs]
@[simp] theorem mem_enterUnreferenced : enterUnreferenced d s ∈ P := by
  unfold enterUnreferenced; dsimp only; repeat' split
  all_goals simp (maxDischargeDepth := 12) [h, hs]
@[simp] theorem mem_exitEgress : exitEgress d s ∈ P := by
  unfold exitEgress; dsimp only; repeat' split
  all_goals simp (maxDischargeDepth := 12) [h, hs]
@[simp] theorem mem_reactOpen : reactOpen d s ∈ P := by
  unfold reactOpen; dsimp only; repeat' split
  all_goals simp (maxDischargeDepth := 12) [h, hs]
@[simp] theorem mem_reactSlideOpen : reactSlideOpen d s ∈ P := by
  unfold reactSlideOpen; repeat' split
  all_goals simp (maxDischargeDepth := 12) [h, hs]
@[simp] theorem mem_reactOpenBlocked : reactOpenBlocked d s ∈ P := by
  unfold reactOpenBlocked; repeat' split
  all_goals simp (maxDischargeDepth := 12) [h, hs]
@[simp] theorem mem_reactToOpen : reactToOpen d s ∈ P := by
  unfold reactToOpen; split <;> simp (maxDischargeDepth := 12) [h, hs]
@[simp] theorem mem_reactToClose : reactToClose d s ∈ P := by
  unfold reactToClose; split <;> simp (maxDischargeDepth := 12) [h, hs]
@[simp] theorem mem_reactWarningUnreferenced : reactWarningUnreferenced d s ∈ P := by
  unfold reactWarningUnreferenced; dsimp only; split <;> simp (maxDischargeDepth := 12) [h, hs]
@[simp] theorem mem_react (old : Demand) : react d old s ∈ P := by
  unfold react; dsimp only; repeat' split
  all_goals simp (maxDischargeDepth := 12) [h, hs]
omit hs in
/-- One event at channel d (R72): its change of state is sent after what it does. -/
theorem mem_atChannel {f : State → State} (hf : f s ∈ P) : atChannel d f s ∈ P := by
  unfold atChannel; dsimp only; split <;> simp [h, hf]
@[simp] theorem mem_recomputeDoor : recomputeDoor d s ∈ P := by
  unfold recomputeDoor; dsimp only; repeat' split
  · exact hs
  · exact hs
  · exact mem_atChannel h (by simp (maxDischargeDepth := 12) [h, hs])

/-! ### The encoder -/

@[simp] theorem mem_passOpening (sl : Bool) : passOpening d sl s ∈ P := by
  unfold passOpening; dsimp only; split <;> simp (maxDischargeDepth := 12) [h, hs]
@[simp] theorem mem_passClosing (sl : Bool) : passClosing d sl s ∈ P := by
  unfold passClosing; dsimp only; split <;> simp (maxDischargeDepth := 12) [h, hs]
@[simp] theorem mem_stepGeometry : stepGeometry d s ∈ P := by
  unfold stepGeometry; dsimp only; repeat' split
  all_goals simp (maxDischargeDepth := 12) [h, hs]
@[simp] theorem mem_stepInSlide (b : Channel) : stepInSlide d b s ∈ P := by
  unfold stepInSlide; dsimp only; split <;> simp (maxDischargeDepth := 12) [h, hs]
@[simp] theorem mem_stepInMotion (b : Channel) : stepInMotion d b s ∈ P := by
  unfold stepInMotion; dsimp only; repeat' split
  all_goals simp (maxDischargeDepth := 12) [h, hs]
@[simp] theorem mem_stepInRelief : stepInRelief d s ∈ P := by
  unfold stepInRelief; dsimp only; split <;> simp (maxDischargeDepth := 12) [h, hs]
@[simp] theorem mem_stepAtGuard (b : Channel) : stepAtGuard d b s ∈ P := by
  unfold stepAtGuard; repeat' split
  all_goals simp (maxDischargeDepth := 12) [h, hs]
@[simp] theorem mem_afterStep (b : Channel) : afterStep d b s ∈ P := by
  simp (maxDischargeDepth := 12) [afterStep, h, hs]
@[simp] theorem mem_takeStep (dir : Dir) : takeStep d dir s ∈ P := by
  unfold takeStep; dsimp only; repeat' split
  · exact hs
  · exact mem_modChan h hs _
  · exact mem_atChannel h (mem_detectCause h hs _)
  · exact mem_atChannel h (mem_afterStep h (mem_modChan h hs _) _)

/-! ### Switches and timers -/

@[simp] theorem mem_pairMade : pairMade d s ∈ P := by
  unfold pairMade; dsimp only; repeat' split
  all_goals simp (maxDischargeDepth := 12) [h, hs]
@[simp] theorem mem_clsMade : clsMade d s ∈ P := by
  unfold clsMade; dsimp only; repeat' split
  all_goals simp (maxDischargeDepth := 12) [h, hs]
@[simp] theorem mem_clsBroken : clsBroken d s ∈ P := by
  unfold clsBroken; dsimp only; repeat' split
  all_goals simp (maxDischargeDepth := 12) [h, hs]
@[simp] theorem mem_lksMade : lksMade d s ∈ P := by
  unfold lksMade; repeat' split
  all_goals simp (maxDischargeDepth := 12) [h, hs]
@[simp] theorem mem_lksBroken : lksBroken d s ∈ P := by
  unfold lksBroken; dsimp only; repeat' split
  all_goals simp (maxDischargeDepth := 12) [h, hs]
@[simp] theorem mem_warningEnd : warningEnd d s ∈ P := by
  unfold warningEnd; repeat' split
  all_goals simp (maxDischargeDepth := 12) [h, hs]
@[simp] theorem mem_pauseEnd : pauseEnd d s ∈ P := by
  unfold pauseEnd; repeat' split
  all_goals simp (maxDischargeDepth := 12) [h, hs]
@[simp] theorem mem_travelEnd : travelEnd d s ∈ P := by
  unfold travelEnd; split <;> simp (maxDischargeDepth := 12) [h, hs]
@[simp] theorem mem_unlockWaitEnd : unlockWaitEnd d s ∈ P := by
  unfold unlockWaitEnd; split <;> simp (maxDischargeDepth := 12) [h, hs]
@[simp] theorem mem_lockWaitEnd : lockWaitEnd d s ∈ P := by
  unfold lockWaitEnd; repeat' split
  all_goals simp (maxDischargeDepth := 12) [h, hs]
@[simp] theorem mem_retryNow : retryNow d s ∈ P := by
  unfold retryNow; split <;> simp (maxDischargeDepth := 12) [h, hs]
@[simp] theorem mem_retryWaitEnd : retryWaitEnd d s ∈ P := by
  unfold retryWaitEnd; split <;> simp (maxDischargeDepth := 12) [h, hs]
@[simp] theorem mem_plausEnd : plausEnd d s ∈ P := by
  unfold plausEnd; split <;> simp (maxDischargeDepth := 12) [h, hs]

/-! ### The guard section -/

@[simp] theorem mem_edgeAsserted : edgeAsserted d s ∈ P := by
  unfold edgeAsserted restartWarning; repeat' split
  all_goals simp (maxDischargeDepth := 12) [h, hs]
@[simp] theorem mem_forceAsserted : forceAsserted d s ∈ P := by
  unfold forceAsserted; split <;> simp (maxDischargeDepth := 12) [h, hs]
@[simp] theorem mem_stallIntervalEnd : stallIntervalEnd d s ∈ P := by
  unfold stallIntervalEnd; split <;> simp (maxDischargeDepth := 12) [h, hs]
@[simp] theorem mem_stallDetection : stallDetection d s ∈ P := by
  unfold stallDetection; repeat' split
  all_goals simp (maxDischargeDepth := 12) [h, hs]
@[simp] theorem mem_stallGraceEnd : stallGraceEnd d s ∈ P := by
  unfold stallGraceEnd; split <;> simp (maxDischargeDepth := 12) [h, hs]

/-! ### Requests at a doorway and the entry into RUN -/

@[simp] theorem mem_clearStanding : clearStanding d s ∈ P := by
  unfold clearStanding; split <;> simp (maxDischargeDepth := 12) [h, hs]
@[simp] theorem mem_clearDoor : clearDoor d s ∈ P := by
  unfold clearDoor; dsimp only; repeat' split
  all_goals simp (maxDischargeDepth := 12) [h, hs]
@[simp] theorem mem_clearFaultAt : clearFaultAt d s ∈ P := by
  unfold clearFaultAt; dsimp only; split <;> simp (maxDischargeDepth := 12) [h, hs]
@[simp] theorem mem_takeRunEntry : takeRunEntry d s ∈ P := by
  unfold takeRunEntry; dsimp only; repeat' split
  all_goals simp (maxDischargeDepth := 12) [h, hs]

end Operations

/-- R41, R44: a recomputation of a scope keeps what every one of its doorways keeps. -/
theorem mem_recompute {P : Set State} (h : ∀ d, ChannelClosed d P) (sc : DoorSet) {s : State} (hs : s ∈ P) :
    recompute sc s ∈ P := by
  unfold recompute
  induction doors generalizing s with
  | nil => exact hs
  | cons d ds ih =>
    rw [List.foldl_cons]
    apply ih
    split
    · exact mem_recomputeDoor (h d) hs
    · exact hs

end Sys2Proof.Machine
end

section
/-! SUPPORT. What an event at the Hold Table leaves alone, and what it does to the doorways that it hands to the Demand
Resolver (R18, R41, R44). -/

namespace Sys2Proof.Machine

open Claims

/-! ### What stands in an event at the table -/

/-- The state without what an event at the Hold Table may write: slots, doorways, notices, outstanding events. -/
def State.offTable (s : State) : State := s.bare.noSlots

theorem State.offTable_of_bare {s t : State} (h : t.bare = s.bare) : t.offTable = s.offTable :=
  congrArg State.noSlots h

theorem State.offTable_of_noSlots {s t : State} (h : t.noSlots = s.noSlots) : t.offTable = s.offTable :=
  show t.noSlots.bare = s.noSlots.bare from congrArg State.bare h

/-- A port whose notices alone differ keeps its receiver, its answer and its supervision. -/
theorem sameLink_of_blank {p : Port} {s t : State} (h : (t.port p).blank = (s.port p).blank) : SameLink p s t :=
  ⟨(congrArg PortState.rx h :), (congrArg PortState.awaitHigh h :), (congrArg PortState.slot h :),
    (congrArg PortState.buffer h :), (congrArg PortState.overrun h :), (congrArg PortState.sup h :),
    (congrArg PortState.supTimer h :), (congrArg PortState.line h :), (congrArg PortState.mask h :)⟩

/-- An event that writes slots, doorways, notices and outstanding events alone is an event at the table. -/
theorem tableEvent_of_offTable {s t : State} (h : t.offTable = s.offTable) : TableEvent s t := by
  have hc : SameControl s t :=
    ⟨(congrArg State.supply h :), (congrArg State.resetLine h :), (congrArg State.mode h :),
      (congrArg State.resetCause h :),
      (congrArg State.epochCell h :), (congrArg State.epoch h :), (congrArg State.cfg h :), (congrArg State.source h :),
      (congrArg State.stored h :), (congrArg State.store h :), (congrArg State.pwm h :), (congrArg State.pending h :),
      .inr (congrArg State.epochOld h :)⟩
  have hl : SameLines s t :=
    ⟨(congrArg State.lines h :), (congrArg State.panelLeft h :), (congrArg State.panelRight h :)⟩
  exact ⟨hc, hl, (congrArg State.clu h :), (congrArg State.free h :),
    sameLink_of_blank (p := .t) (congrArg State.portT h :), sameLink_of_blank (p := .s) (congrArg State.portS h :)⟩

/-- Settling the outputs forgets the epoch before the start and moves the chimes and the attention lines. -/
theorem sameControl_settle {s t : State} (h : SameControl s t) : SameControl s t.settle := by
  obtain ⟨h1, h2, h3, h4, h5, h6, h7, h8, h9, h10, h11, h12, _⟩ := h
  exact ⟨h1, h2, h3, h4, h5, h6, h7, h8, h9, h10, h11, h12, .inl rfl⟩

theorem tableEvent_settle {s t : State} (h : TableEvent s t) : TableEvent s t.settle := by
  obtain ⟨hc, hl, hu, hf, hT, hS⟩ := h
  exact ⟨sameControl_settle hc, hl, hu, hf, hT, hS⟩

/-! ### What a doorway reads -/

/-- Two states are the same to every doorway but for the slots of the table. -/
structure SameToDoors (s t : State) : Prop where
  chans : t.chans = s.chans
  guards : t.guards = s.guards
  demands : t.demands = s.demands
  cfg : t.cfg = s.cfg
  lines : t.lines = s.lines
  mode : t.mode = s.mode
  sent : t.sent = s.sent

namespace SameToDoors
variable {s t u : State}

theorem refl (s : State) : SameToDoors s s := ⟨rfl, rfl, rfl, rfl, rfl, rfl, rfl⟩

theorem trans (h : SameToDoors s t) (k : SameToDoors t u) : SameToDoors s u :=
  ⟨k.chans.trans h.chans, k.guards.trans h.guards, k.demands.trans h.demands, k.cfg.trans h.cfg,
    k.lines.trans h.lines, k.mode.trans h.mode, k.sent.trans h.sent⟩

theorem of_noSlots (h : t.noSlots = s.noSlots) : SameToDoors s t :=
  ⟨(congrArg State.chans h :), (congrArg State.guards h :), (congrArg State.demands h :), (congrArg State.cfg h :),
    (congrArg State.lines h :), (congrArg State.mode h :), (congrArg State.sent h :)⟩

theorem settle (s : State) : SameToDoors s s.settle := ⟨rfl, rfl, rfl, rfl, rfl, rfl, rfl⟩

theorem modPort (s : State) (p : Port) (f : PortState → PortState) : SameToDoors s (s.modPort p f) := by
  cases p <;> exact ⟨rfl, rfl, rfl, rfl, rfl, rfl, rfl⟩

theorem formAnswer (s : State) (p : Port) (k seq : Byte) (r : Reply) (b : Bool) :
    SameToDoors s (s.formAnswer p k seq r b) := modPort s p _

theorem chan (h : SameToDoors s t) (d : Door) : t.chan d = s.chan d := by simp [State.chan, h.chans]
theorem guard (h : SameToDoors s t) (d : Door) : t.guard d = s.guard d := by simp [State.guard, h.guards]
theorem demand (h : SameToDoors s t) (d : Door) : t.demand d = s.demand d := by simp [State.demand, h.demands]
theorem fitted (h : SameToDoors s t) (d : Door) : t.fitted d = s.fitted d := by simp [State.fitted, h.cfg]

/-- The states agree at each doorway once they have the same table. -/
theorem agree (h : SameToDoors s t) (d : Door) : Agree d { s with slots := t.slots } t :=
  ⟨h.chan d, h.guard d, h.demand d, h.cfg, rfl, h.lines, h.mode, by rw [h.sent], by rw [h.sent]⟩

theorem resolve (h : SameToDoors s t) (hsl : t.slots = s.slots) (d : Door) : t.resolve d = s.resolve d := by
  have := (h.agree d).resolve
  rwa [hsl] at this

/-- A doorway stands between two states that are the same to it. -/
theorem doorAs (h : SameToDoors s t) (d : Door) : DoorAs d s t :=
  ⟨h.chan d, h.guard d, h.demand d, by rw [h.sent]⟩

end SameToDoors

theorem Agree.doorAs {d : Door} {s t : State} (h : Agree d s t) : DoorAs d s t := ⟨h.chan, h.guard, h.demand, h.sends⟩

theorem doorAs_trans {d : Door} {s t u : State} (h : DoorAs d s t) (k : DoorAs d t u) : DoorAs d s u := by
  obtain ⟨h1, h2, h3, h4⟩ := h
  obtain ⟨k1, k2, k3, k4⟩ := k
  exact ⟨k1.trans h1, k2.trans h2, k3.trans h3, k4.trans h4⟩

/-- An unfitted doorway is not recomputed. -/
theorem recomputeDoor_of_unfitted {d : Door} {s : State} (h : s.fitted d = false) : recomputeDoor d s = s := by
  simp [recomputeDoor, h]

/-- R41, R43, R44: the doorways of a scope follow the table that an event has written. -/
theorem doorsFollow_recompute {touched : Door → Prop} {s v : State} {sc : DoorSet}
    (ht : ∀ d, touched d ↔ has sc d = true) (hv : SameToDoors s v) : DoorsFollow touched s (recompute sc v) := by
  refine ⟨fun d => ⟨fun hd hf => ⟨?_, ?_⟩, fun hd => ?_⟩, ?_⟩
  · have hsl : (recompute sc v).slots = v.slots := State.slots_of_bare (bare_recompute sc v)
    rw [hsl]
    exact ((hv.agree d).recomputeDoor.trans (agree_recompute sc v d ((ht d).mp hd))).doorAs
  · refine fresh_recompute sc v d ((ht d).mp hd) ?_
    rw [State.fitted_of_bare (bare_recompute sc v), hv.fitted]
    exact hf
  · refine doorAs_trans (hv.doorAs d) ?_
    cases hs : has sc d
    · exact (agree_recompute_outside sc v d hs).doorAs
    · have hu : v.fitted d = false := (hv.fitted d).trans (hd.resolve_left (fun k => k ((ht d).mpr hs)))
      have := agree_recompute sc v d hs
      rw [recomputeDoor_of_unfitted hu] at this
      exact this.doorAs
  · have := sent_recompute sc v
    rw [hv.sent] at this
    exact this

/-- What follows the table in one state follows it in one that is the same to the doorways. -/
theorem doorsFollow_congr {touched : Door → Prop} {s t u : State} (h : DoorsFollow touched s t)
    (k : SameToDoors t u) (hsl : u.slots = t.slots) : DoorsFollow touched s u := by
  obtain ⟨hd, ho⟩ := h
  refine ⟨fun d => ⟨fun h1 h2 => ?_, fun h1 => doorAs_trans ((hd d).2 h1) (k.doorAs d)⟩, ?_⟩
  · obtain ⟨h3, h4⟩ := (hd d).1 h1 h2
    rw [hsl]
    refine ⟨doorAs_trans h3 (k.doorAs d), ?_⟩
    rw [k.demand, h4, k.resolve hsl]
  · show u.sent.filter _ = _
    rw [k.sent]
    exact ho

/-- Nothing follows where a recomputation has no scope. -/
theorem recompute_empty (s : State) : recompute 0#8 s = s := by
  simp [recompute, doors, has]

/-- R41: a record that is the table's already is not delivered. -/
theorem recompute_of_fresh {sc : DoorSet} {s : State} (h : ∀ d, has sc d = true → s.fresh d) : recompute sc s = s := by
  unfold recompute
  induction doors with
  | nil => rfl
  | cons d ds ih =>
    rw [List.foldl_cons]
    have hd : (if has sc d = true then recomputeDoor d s else s) = s := by
      split
      · rename_i hs
        unfold recomputeDoor
        cases hf : s.fitted d
        · rfl
        · simp [(h d hs hf).symm]
      · rfl
    rw [hd]
    exact ih

/-! ### Notices that a recomputation leaves alone -/

theorem PortState.kinds_raiseDoor (x : PortState) (k : NoticeKind) (d : Door) :
    (x.raiseDoor k d).kinds = x.kinds ||| k.bit := by
  cases k <;> rfl

theorem State.port_raiseDoor (s : State) (k : NoticeKind) (d : Door) (p : Port) :
    (s.raiseDoor k d).port p = (s.port p).raiseDoor k d := by
  cases p <;> rfl

/-- The states whose RETIRED and EGRESS notices at port p are those of s. -/
def noticesAs (p : Port) (s : State) : Set State :=
  { t | (∀ n, n = 1 ∨ n = 4 → (t.port p).kinds.getLsbD n = (s.port p).kinds.getLsbD n) ∧
    (t.port p).egress = (s.port p).egress }

/-- A channel raises STANDING and FAULT notices alone. -/
theorem channelClosed_noticesAs (p : Port) (s : State) (d : Door) : ChannelClosed d (noticesAs p s) where
  modChan _ _ ht := by cases p <;> exact ht
  modGuard _ _ ht := by cases p <;> exact ht
  setDemand _ _ ht := by cases p <;> exact ht
  dropGrd _ ht := by cases p <;> exact ht
  send _ _ _ ht := by cases p <;> exact ht
  raiseDoor t k hk ht := by
    obtain ⟨hkinds, hegress⟩ := ht
    refine ⟨fun n hn => ?_, ?_⟩
    · have hb : k.bit.getLsbD n = false := by
        rcases hn with rfl | rfl <;> cases hk <;> rfl
      rw [State.port_raiseDoor, PortState.kinds_raiseDoor, BitVec.getLsbD_or, hb, Bool.or_false]
      exact hkinds n hn
    · rw [State.port_raiseDoor]
      cases hk <;> exact hegress

theorem recompute_noticesAs (sc : DoorSet) (s : State) (p : Port) : recompute sc s ∈ noticesAs p s :=
  mem_recompute (channelClosed_noticesAs p s) sc ⟨fun _ _ => rfl, rfl⟩

/-- RETIRED and EGRESS stand in a recomputation. -/
theorem kinds_recompute {n : Nat} (hn : n = 1 ∨ n = 4) (sc : DoorSet) (s : State) (p : Port) :
    ((recompute sc s).port p).kinds.getLsbD n = (s.port p).kinds.getLsbD n := (recompute_noticesAs sc s p).1 n hn

/-- The doorways of EGRESS notices stand in a recomputation. -/
theorem egress_recompute (sc : DoorSet) (s : State) (p : Port) :
    ((recompute sc s).port p).egress = (s.port p).egress := (recompute_noticesAs sc s p).2

/-! ### Scopes of several slots -/

theorem getLsbD_foldl_or (f : SlotNo → DoorSet) (is : List SlotNo) (sc : DoorSet) (n : Nat) :
    (is.foldl (fun sc i => sc ||| f i) sc).getLsbD n = (sc.getLsbD n || is.any (fun i => (f i).getLsbD n)) := by
  induction is generalizing sc with
  | nil => simp
  | cons i is ih => rw [List.foldl_cons, ih, BitVec.getLsbD_or, List.any_cons, Bool.or_assoc]

/-- The union of the scopes of some slots holds the doorways of the holds that are live there. -/
theorem has_scopeOf (s : State) (is : List SlotNo) (d : Door) :
    has (s.scopeOf is) d = true ↔ ∃ i ∈ is, ∃ h, s.hold i = some h ∧ has h.scope d = true := by
  have he : s.scopeOf is = is.foldl (fun sc i => sc ||| ((s.hold i).map Hold.scope).getD 0#8) 0#8 := by
    unfold State.scopeOf
    congr 1
    funext sc i
    cases s.hold i <;> simp
  rw [he, has, getLsbD_foldl_or]
  simp only [BitVec.getLsbD_zero, Bool.false_or, List.any_eq_true]
  refine exists_congr fun i => and_congr_right fun _ => ?_
  cases s.hold i <;> simp [has]

/-! ### Retirements -/

theorem retires_congr {sel : SlotNo → Hold → Prop} {r : Reason} {own : Bool} {s t u : State}
    (h : Retires sel r own s t) (k : ∀ i, u.slot i = t.slot i) : Retires sel r own s u := by
  intro i
  rw [k i]
  exact h i

/-- R18: the slots of a list retired in one event, where the list holds the slots of the selected holds. -/
theorem retires_tableRetire {sel : SlotNo → Hold → Prop} {is : List SlotNo} {s : State} (r : Reason) (own : Bool)
    (hn : is.Nodup) (hsel : ∀ i h, s.hold i = some h → (i ∈ is ↔ sel i h)) :
    Retires sel r own s (tableRetire is r own s) := by
  intro i
  rw [slot_tableRetire s is r own i hn]
  cases hi : s.hold i with
  | none => simp
  | some h => simp [hsel i h hi, Slot.retired]; exact ⟨fun k => by simp [k], fun k k' => absurd k' k⟩

/-- R18: the retirements of an event and the recomputation after it are an event at the table. -/
theorem offTable_tableRetire (is : List SlotNo) (r : Reason) (own : Bool) (s : State) :
    (tableRetire is r own s).offTable = s.offTable :=
  (State.offTable_of_bare (bare_recompute _ _)).trans (State.offTable_of_noSlots (State.noSlots_retireSlots s is r own))

/-- R18, R41: the doorways in the scopes of the retired holds follow the table. -/
theorem doorsFollow_tableRetire {sel : SlotNo → Hold → Prop} {is : List SlotNo} {s s0 : State} (r : Reason)
    (own : Bool) (hs : SameToDoors s0 s) (hh : ∀ i, s.hold i = s0.hold i)
    (hsel : ∀ i h, s.hold i = some h → (i ∈ is ↔ sel i h)) :
    DoorsFollow (inScopes sel s0) s0 (tableRetire is r own s) := by
  refine doorsFollow_recompute (fun d => ?_) (hs.trans (.of_noSlots (State.noSlots_retireSlots s is r own)))
  rw [has_scopeOf]
  constructor
  · rintro ⟨i, h, hi, hs, hd⟩
    rw [← hh] at hi
    exact ⟨i, (hsel i h hi).mpr hs, h, hi, hd⟩
  · rintro ⟨i, hm, h, hi, hd⟩
    exact ⟨i, h, (hh i).symm.trans hi, (hsel i h hi).mp hm, hd⟩

/-- The port to which a retirement is reported (R18 item 5). -/
theorem issuerPort_eq (x : Issuer) : issuerPort x = if x = .trn then .t else .s := by cases x <;> rfl

theorem State.kinds_raiseOn_self (s : State) (p : Port) :
    ((s.raiseOn p .retired).port p).kinds.getLsbD 1 = true := by
  simp [State.raiseOn, PortState.raise, NoticeKind.bit]

/-- A notice raised on one port leaves no notice of the other less. -/
theorem State.kinds_raiseOn_mono (s : State) (p q : Port) (k : NoticeKind) {n : Nat}
    (h : (s.port q).kinds.getLsbD n = true) : ((s.raiseOn p k).port q).kinds.getLsbD n = true := by
  cases p <;> cases q <;> simp_all [State.raiseOn, PortState.raise, State.modPort, State.setPort, State.port]

@[simp] theorem State.port_setSlot (s : State) (i : SlotNo) (x : Slot) (p : Port) :
    (s.setSlot i x).port p = s.port p := by
  cases p <;> rfl

/-- R18 item 5: the retirement of a pool hold, not at its own issuer's request, is reported on its port. -/
theorem kinds_retireSlot (s : State) {i : SlotNo} {h : Hold} (r : Reason) (hi : s.hold i = some h)
    (hp : isPool i = true) :
    ((s.retireSlot i r false).port (issuerPort h.issuer)).kinds.getLsbD 1 = true := by
  simp only [State.retireSlot, hi, hp, Bool.not_false, Bool.and_self, if_true]
  exact State.kinds_raiseOn_self _ _

theorem kinds_retireSlot_mono (s : State) (i : SlotNo) (r : Reason) (own : Bool) {p : Port} {n : Nat}
    (h : (s.port p).kinds.getLsbD n = true) : ((s.retireSlot i r own).port p).kinds.getLsbD n = true := by
  unfold State.retireSlot
  split
  · exact h
  · dsimp only
    split
    · exact State.kinds_raiseOn_mono _ _ _ _ (by simpa using h)
    · simpa using h

/-- A retirement of a fixed slot, or at the own issuer's request, is not reported. -/
theorem port_retireSlot_of_untold (s : State) {i : SlotNo} (r : Reason) {own : Bool}
    (h : (isPool i && !own) = false) (p : Port) : (s.retireSlot i r own).port p = s.port p := by
  unfold State.retireSlot
  split
  · rfl
  · simp [h]

theorem port_retireSlots_of_untold (s : State) (is : List SlotNo) (r : Reason) {own : Bool}
    (h : ∀ i ∈ is, (isPool i && !own) = false) (p : Port) : (s.retireSlots is r own).port p = s.port p := by
  unfold State.retireSlots
  induction is generalizing s with
  | nil => rfl
  | cons i is ih =>
    rw [List.foldl_cons, ih _ (fun j hj => h j (List.mem_cons_of_mem i hj)),
      port_retireSlot_of_untold s r (h i List.mem_cons_self)]

/-- R18 item 5, for several holds retired in one event. -/
theorem kinds_retireSlots (s : State) {is : List SlotNo} {i : SlotNo} {h : Hold} (r : Reason) (hm : i ∈ is)
    (hi : s.hold i = some h) (hp : isPool i = true) :
    ((s.retireSlots is r false).port (issuerPort h.issuer)).kinds.getLsbD 1 = true := by
  have mono : ∀ (l : List SlotNo) (t : State), (t.port (issuerPort h.issuer)).kinds.getLsbD 1 = true →
      ((t.retireSlots l r false).port (issuerPort h.issuer)).kinds.getLsbD 1 = true := by
    intro l
    induction l with
    | nil => exact fun _ ht => ht
    | cons j l ih => exact fun t ht => ih _ (kinds_retireSlot_mono t j r false ht)
  induction is generalizing s with
  | nil => cases hm
  | cons j is ih =>
    show ((State.retireSlots (s.retireSlot j r false) is r false).port _).kinds.getLsbD 1 = true
    by_cases hj : i = j
    · subst hj
      exact mono is _ (kinds_retireSlot s r hi hp)
    · refine ih _ ((List.mem_cons.mp hm).resolve_left hj) ?_
      simpa [State.hold, State.slot_retireSlot, hj] using hi

/-- R18 item 5: the notices of the pool holds that an event retires. -/
theorem retiredNotices_tableRetire {sel : SlotNo → Hold → Prop} {is : List SlotNo} {s : State} (r : Reason)
    (hsel : ∀ i h, s.hold i = some h → sel i h → i ∈ is) :
    RetiredNotices sel s (tableRetire is r false s) := by
  intro i h hi hs hp
  rw [← issuerPort_eq, tableRetire, kinds_recompute (.inl rfl)]
  exact kinds_retireSlots s r (hsel i h hi hs) hi hp

/-- R20: retirements that are not reported leave the RETIRED notices alone. -/
theorem noRetiredNotice_tableRetire {is : List SlotNo} {s : State} (r : Reason) {own : Bool}
    (h : ∀ i ∈ is, (isPool i && !own) = false) : NoRetiredNotice s (tableRetire is r own s) := by
  intro p
  rw [tableRetire, kinds_recompute (.inl rfl), port_retireSlots_of_untold s is r h]

/-- No notice but the attention line is touched where the outputs settle. -/
theorem kinds_settle (s : State) (p : Port) : (s.settle.port p).kinds = (s.port p).kinds := by cases p <;> rfl

theorem mem_slotNos (i : SlotNo) : i ∈ slotNos := by revert i; decide

end Sys2Proof.Machine
end

section
/-! PROOF. The events at the Hold Table that no request causes (R14, R15, R18, R21 to R26, R87, R107, R109, R112). -/

namespace Sys2Proof.Machine

open Claims

/-! ### One event at the table -/

/-- A state as another was before the event that it has taken left what was outstanding. -/
def TakenFrom (s s1 : State) : Prop := { s1 with sent := s.sent } = s

namespace TakenFrom
variable {s s1 : State}

theorem refl (s : State) : TakenFrom s s := rfl

theorem of_takeSent {c : Instr} (h : s.takeSent c = some s1) : TakenFrom s s1 := by
  obtain ⟨l, _, rfl⟩ := State.takeSent_eq h
  rfl

variable (h : TakenFrom s s1)
include h

theorem offTable : s1.offTable = s.offTable := (congrArg State.offTable h :)
theorem slot (i : SlotNo) : s1.slot i = s.slot i := (congrArg (State.slot · i) h :)
theorem hold (i : SlotNo) : s1.hold i = s.hold i := (congrArg (State.hold · i) h :)
theorem chan (d : Door) : s1.chan d = s.chan d := (congrArg (State.chan · d) h :)
theorem guard (d : Door) : s1.guard d = s.guard d := (congrArg (State.guard · d) h :)
theorem cluDoor (d : Door) : s1.cluDoor d = s.cluDoor d := (congrArg (State.cluDoor · d) h :)
theorem cfg : s1.cfg = s.cfg := (congrArg State.cfg h :)
theorem mode : s1.mode = s.mode := (congrArg State.mode h :)
theorem epoch : s1.epoch = s.epoch := (congrArg State.epoch h :)
theorem slots : s1.slots = s.slots := (congrArg State.slots h :)
theorem port (p : Port) : s1.port p = s.port p := (congrArg (State.port · p) h :)
theorem inScopes (sel : SlotNo → Hold → Prop) : Claims.inScopes sel s1 = Claims.inScopes sel s := by
  funext d
  simp only [Claims.inScopes, h.hold]
theorem sameDoors : SameDoors s s1 :=
  ⟨(congrArg State.chans h :), (congrArg State.guards h :), (congrArg State.demands h :)⟩

end TakenFrom

/-- An event at the table that changes nothing there leaves the doorways and the notices alone. -/
theorem settle_of_taken {s s1 : State} (h : TakenFrom s s1) :
    TableEvent s s1.settle ∧ s1.settle.slots = s.slots ∧ SameDoors s s1.settle ∧ NoNotice s s1.settle := by
  have hn : ∀ p, SameNotices p s s1.settle := fun p => by
    rw [SameNotices, State.settle_port, h.port]
    exact ⟨rfl, rfl, rfl, rfl⟩
  exact ⟨tableEvent_settle (tableEvent_of_offTable h.offTable), h.slots, h.sameDoors, hn .t, hn .s⟩

/-- An event at the table: it writes slots and notices, then the doorways of a scope follow. -/
theorem recompute_event {s s1 v : State} (h : TakenFrom s s1) (hv : v.noSlots = s1.noSlots) (sc : DoorSet) :
    TableEvent s (recompute sc v).settle ∧ DoorsFollow (fun d => has sc d = true) s1 (recompute sc v).settle :=
  ⟨tableEvent_settle (tableEvent_of_offTable
      (((State.offTable_of_bare (bare_recompute sc v)).trans (State.offTable_of_noSlots hv)).trans h.offTable)),
    doorsFollow_congr (doorsFollow_recompute (fun _ => Iff.rfl) (.of_noSlots hv)) (.settle _) rfl⟩

/-- R18: an event that retires the selected holds. -/
theorem tableRetire_event {sel : SlotNo → Hold → Prop} {is : List SlotNo} {s s1 : State} (ht : TakenFrom s s1)
    (r : Reason) (hn : is.Nodup) (hsel : ∀ i h, s.hold i = some h → (i ∈ is ↔ sel i h)) :
    TableEvent s (tableRetire is r false s1).settle ∧ Retires sel r false s (tableRetire is r false s1).settle ∧
    RetiredNotices sel s (tableRetire is r false s1).settle ∧
    DoorsFollow (inScopes sel s) s1 (tableRetire is r false s1).settle := by
  have hsel1 : ∀ i h, s1.hold i = some h → (i ∈ is ↔ sel i h) := fun i h hi => hsel i h (ht.hold i ▸ hi)
  refine ⟨tableEvent_settle (tableEvent_of_offTable ((offTable_tableRetire is r false s1).trans ht.offTable)),
    fun i => ?_, fun i h hi hs hp => ?_, ?_⟩
  · rw [← ht.hold, ← ht.slot]
    exact retires_tableRetire r false hn hsel1 i
  · rw [kinds_settle]
    exact retiredNotices_tableRetire r (fun i h hi => (hsel1 i h hi).mpr) i h (ht.hold i ▸ hi) hs hp
  · have := doorsFollow_tableRetire r false (.refl s1) (fun _ => rfl) hsel1
    rw [ht.inScopes] at this
    exact doorsFollow_congr this (.settle _) rfl

theorem tableRetire_nil (r : Reason) (own : Bool) (s : State) : tableRetire [] r own s = s := recompute_empty s

/-! ### Retirements without a request -/

theorem mem_sideDoors (sd : Side) (d : Door) : d ∈ sideDoors sd ↔ sideOf d = sd := by cases sd <;> revert d <;> decide

/-- A slot of a side's panel holds. -/
theorem any_pnlSlot (sd : Side) (i : SlotNo) :
    (sideDoors sd).any (fun d => i == pnlSlot d) = true ↔ ∃ d, sideOf d = sd ∧ i = pnlSlot d := by
  simp [mem_sideDoors]

theorem ofPort_eq (p : Port) (i : SlotNo) (h : Hold) : ofPort p h.issuer = true ↔ heldBy p i h := by
  cases p <;> simp [ofPort, heldBy]

theorem scopeProven_eq (s : State) (sc : DoorSet) : scopeProven s sc = true ↔ Proven s sc := by
  simp only [scopeProven, List.all_eq_true, mem_doors, forall_const, Bool.or_eq_true, Bool.not_eq_true']
  refine forall_congr' fun d => ?_
  cases has sc d <;> simp

/-- Slots selected by a test that says of each live hold what `sel` says. -/
theorem mem_slotsWhere_of {s : State} {p : SlotNo → Hold → Bool} {sel : SlotNo → Hold → Prop}
    (hp : ∀ i h, p i h = true ↔ sel i h) (i : SlotNo) (h : Hold) (hi : s.hold i = some h) :
    i ∈ s.slotsWhere p ↔ sel i h := by
  rw [State.mem_slotsWhere, ← hp]
  constructor
  · rintro ⟨h', hi', hp'⟩
    cases hi.symm.trans hi'
    exact hp'
  · exact fun k => ⟨h, hi, k⟩

/-- R18: an event sent to the table that retires the holds passing a test. -/
theorem retirement_taken {sel : SlotNo → Hold → Prop} {p : State → SlotNo → Hold → Bool} {c : Instr} {s s1 : State}
    (r : Reason) (hr : s.running = true) (ht : s.takeSent c = some s1)
    (hc : exec c s = actSent s c (fun u => tableRetire (u.slotsWhere (p u)) r false u))
    (hp : ∀ i h, p s1 i h = true ↔ sel i h) :
    ∃ t, exec c s = .next t ∧ TableEvent s t ∧ Retires sel r false s t ∧ RetiredNotices sel s t ∧
      DoorsFollow (inScopes sel s) s1 t := by
  have hts := TakenFrom.of_takeSent ht
  rw [hc, actSent_of_taken _ hr ht]
  exact ⟨_, rfl, tableRetire_event hts r (State.nodup_slotsWhere _ _)
    (fun i h hi => mem_slotsWhere_of hp i h ((hts.hold i).trans hi))⟩

/-- R21: an expiry retires the hold of its slot where a limited countdown runs, and no other. -/
theorem takeExpiry_eq (i : SlotNo) (s : State) :
    takeExpiry i s = tableRetire (if (s.hold i).any countingDown then [i] else []) .expired false s := by
  unfold takeExpiry
  cases hi : s.hold i with
  | none => exact (tableRetire_nil _ _ s).symm
  | some h => cases hc : countingDown h <;> simp [hc, tableRetire_nil]

/-- Settles O36: each event retires the holds that its test selects, by tableRetire. -/
theorem tableEventsRetire : Obligations.TableEventsRetire := by
  refine ⟨?_, ?_⟩
  · rintro c sel r s s1 hr ht (⟨sd, rfl, rfl, rfl⟩ | ⟨sd, rfl, rfl, rfl⟩ | ⟨p, rfl, rfl, rfl⟩ | ⟨d, rfl, rfl, rfl⟩)
    · exact retirement_taken .lineDropped hr ht rfl (fun i h => by
        rw [Bool.or_eq_true, any_pnlSlot, beq_iff_eq])
    · exact retirement_taken .panelOff hr ht rfl (fun i h => any_pnlSlot sd i)
    · exact retirement_taken .linkLost hr ht rfl (fun i h => ofPort_eq p i h)
    · refine retirement_taken (p := fun u _ h => has h.scope d && fulfilled u h) .fulfilled hr ht rfl (fun i h => ?_)
      rw [fulfilled, Bool.and_eq_true, Bool.and_eq_true, scopeProven_eq]
      simp only [Proven, (TakenFrom.of_takeSent ht).cluDoor]
  · intro i s hr sel
    refine ⟨_, act_of_running _ hr, ?_⟩
    rw [takeExpiry_eq]
    refine tableRetire_event (.refl s) .expired (by split <;> simp) (fun j h hj => ?_)
    by_cases hji : j = i
    · subst hji
      simp [hj, sel, countingDown, Option.isSome_iff_ne_none]
    · have : j ∉ (if (s.hold i).any countingDown then [i] else []) := by split <;> simp [hji]
      simp [this, sel, hji]

/-! ### Countdown starts and channel entries -/

/-- R24: what a countdown start for doorway d does to a hold. -/
theorem Slot.startCountdown_eq (d : Door) (x : Slot) :
    x.startCountdown d = { x with hold := x.hold.map (fun h =>
      if h.countdown = .waiting ∧ h.scope = single d then { h with countdown := .running } else h) } := by
  rcases x with ⟨_ | h, g, r, m⟩
  · rfl
  · simp only [Slot.startCountdown, Option.map_some]
    split <;> rfl

theorem State.noSlots_startCountdowns (s : State) (d : Door) : (s.startCountdowns d).noSlots = s.noSlots := rfl

theorem nodup_entrySlots (d : Door) (e : EntryKind) : (entrySlots d e).Nodup := by revert d; cases e <;> decide

theorem isPool_entrySlots {d : Door} {e : EntryKind} : ∀ i ∈ entrySlots d e, isPool i = false := by
  revert d; cases e <;> decide

theorem mem_entrySlots (d : Door) (e : EntryKind) (i : SlotNo) :
    i ∈ entrySlots d e ↔ i = grdSlot d ∨ (e ≠ .standing ∧ i = pnlSlot d) := by
  cases e <;> simp [entrySlots, or_comm]

/-- Settles O37. -/
theorem channelEventsStartCountdowns : Obligations.ChannelEventsStartCountdowns := by
  refine ⟨fun d s s1 hr ht => ?_, ?_⟩
  · have hts := TakenFrom.of_takeSent ht
    obtain ⟨_, _, hd, hn⟩ := settle_of_taken hts
    refine ⟨_, actSent_of_taken _ hr ht, tableEvent_settle (tableEvent_of_offTable hts.offTable), hd, hn, rfl,
      fun i => ?_⟩
    rw [State.settle_slot, State.slot_startCountdowns, Slot.startCountdown_eq, hts.slot]
    rfl
  · intro d e s s1 hr ht gone r
    have hts := TakenFrom.of_takeSent ht
    have hr' : entryReason e = r := by cases e <;> rfl
    have hv : ((s1.retireSlots (entrySlots d e) (entryReason e) false).startCountdowns d).noSlots = s1.noSlots :=
      State.noSlots_retireSlots _ _ _ _
    obtain ⟨hev, hf⟩ := recompute_event hts hv (s1.scopeOf (entrySlots d e))
    refine ⟨_, actSent_of_taken _ hr ht, hev, fun p => ?_, ?_, fun i => ?_⟩
    · have hun := port_retireSlots_of_untold s1 (entrySlots d e) (entryReason e) (own := false)
        (fun i hi => by simp [isPool_entrySlots i hi]) p
      rw [kinds_settle, takeChannelEntry, kinds_recompute (.inl rfl), ← hts.port, ← hun]
      cases p <;> rfl
    · have : inScopes (fun i _ => gone i) s = fun d' => has (s1.scopeOf (entrySlots d e)) d' = true := by
        funext d'
        simp only [has_scopeOf, inScopes, mem_entrySlots, hts.hold, gone, Option.mem_def, eq_iff_iff]
        exact exists_congr fun i =>
          ⟨fun ⟨h, hi, hg, hd⟩ => ⟨hg, h, hi, hd⟩, fun ⟨hg, h, hi, hd⟩ => ⟨h, hi, hg, hd⟩⟩
      rw [this]
      exact hf
    · rw [State.settle_slot, takeChannelEntry, slot_recompute, State.slot_startCountdowns, Slot.startCountdown_eq]
      by_cases hg : i ∈ entrySlots d e
      · rw [State.slot_retireSlots_of_mem _ _ _ _ _ hg (nodup_entrySlots d e), hts.hold, hts.slot]
        cases hi : s.hold i with
        | none =>
          rw [if_neg (fun k => k.2 rfl)]
          have hx : (s.slot i).hold = none := hi
          simp [hx]
        | some h =>
          rw [if_pos ⟨(mem_entrySlots d e i).mp hg, by simp⟩]
          simp [Slot.retired, isPool_entrySlots i hg, hr']
      · rw [State.slot_retireSlots_of_not_mem _ _ _ _ _ hg, if_neg (fun k => hg ((mem_entrySlots d e i).mpr k.1)),
          hts.slot]
        rfl

end Sys2Proof.Machine
end

section
/-! PROOF. Internal placements and raises at the table (R10, R14, R15, R25, R87, R112). -/

namespace Sys2Proof.Machine

open Claims

/-! ### Countdowns that start at once (R25) -/

theorem inStartingCondition_iff (s : State) (d : Door) : s.inStartingCondition d = true ↔ startsAtOnce s d := by
  unfold State.inStartingCondition startsAtOnce
  cases (s.chan d).state <;> simp

/-- R25: a hold that waits for a doorway in a starting condition starts at once; every other keeps its countdown. -/
theorem startAtOnce_eq (s : State) (h : Hold) :
    s.startAtOnce h = { h with countdown := countdownFor s h.scope (h.countdown == .waiting) } := by
  have ha : doors.any (fun d => h.scope == single d && s.inStartingCondition d) = true ↔
      ∃ d : Door, h.scope = single d ∧ startsAtOnce s d := by
    simp only [List.any_eq_true, Bool.and_eq_true, beq_iff_eq, inStartingCondition_iff]
    exact ⟨fun ⟨d, _, k⟩ => ⟨d, k⟩, fun ⟨d, k⟩ => ⟨d, mem_doors d, k⟩⟩
  simp only [State.startAtOnce, countdownFor, ha, beq_iff_eq]
  rcases h with ⟨hd, x, k, sc, lv, lt, cd, lm, rwl, tag⟩
  cases cd
  · simp
  · by_cases he : ∃ d : Door, sc = single d ∧ startsAtOnce s d
    · rw [if_pos ⟨rfl, he⟩, if_neg (fun k => k.2 he)]
    · rw [if_neg (fun k => he k.2), if_pos ⟨rfl, he⟩]

theorem waiting_beq (b : Bool) : ((if b = true then Countdown.waiting else .running) == .waiting) = b := by
  cases b <;> rfl

theorem TakenFrom.countdownFor {s s1 : State} (h : TakenFrom s s1) (sc : DoorSet) (w : Bool) :
    Claims.countdownFor s1 sc w = Claims.countdownFor s sc w := by
  simp only [Claims.countdownFor, startsAtOnce, h.chan, h.guard]

/-! ### The fixed slots (Table 1-1) -/

theorem slotRole_eq_grd (i : SlotNo) (d : Door) : slotRole i = .grd d ↔ i = grdSlot d := by revert i d; decide
theorem slotRole_eq_hdl (i : SlotNo) (d : Door) : slotRole i = .hdl d ↔ i = hdlSlot d := by revert i d; decide
theorem slotRole_eq_pnl (i : SlotNo) (d : Door) : slotRole i = .pnl d ↔ i = pnlSlot d := by revert i d; decide

/-- R87: the slot is that of an obstruction hold whose doorway stands in STANDING, FAULTED or EGRESS. -/
def slotBarred (s : State) (i : SlotNo) : Prop := ∃ d, i = grdSlot d ∧ grdBarred s d = true

theorem slotBarred_iff (s : State) (i : SlotNo) :
    slotBarred s i ↔ ∃ d, i = grdSlot d ∧
      ((s.chan d).state = .standing ∨ (s.chan d).state = .faulted ∨ (s.chan d).state = .egress) := by
  simp [slotBarred, grdBarred, or_assoc]

/-! ### What an internal placement does -/

/-- R14, R87: outside RUN, where R87 bars it, and for a handle that finds its hold, nothing is placed. -/
theorem takePlacement_of_idle {q : Placement} {s : State}
    (h : s.mode = .configure ∨ slotBarred s q.slot ∨ (∃ d, q.slot = hdlSlot d) ∧ s.hold q.slot ≠ none) :
    takePlacement q s = s := by
  unfold takePlacement
  rcases h with h | ⟨d, hd, hb⟩ | ⟨⟨d, hd⟩, hh⟩
  · simp [h]
  · rw [(slotRole_eq_grd _ d).mpr hd]
    cases s.hold q.slot <;> simp [hb]
  · rw [(slotRole_eq_hdl _ d).mpr hd]
    cases hs : s.hold q.slot with
    | none => exact absurd hs hh
    | some a => simp

/-- R14: a placement that nothing bars fills its free slot. -/
theorem takePlacement_of_free {q : Placement} {s : State} (hm : s.mode = .run) (hp : slotRole q.slot ≠ .pool)
    (hb : ¬ slotBarred s q.slot) (hh : s.hold q.slot = none) : takePlacement q s = createInternal q s := by
  unfold takePlacement
  rw [if_neg (fun k => k hm), hh]
  cases hr : slotRole q.slot with
  | pool => exact absurd hr hp
  | grd d => simp [show grdBarred s d = false from
      Bool.eq_false_iff.mpr fun k => hb ⟨d, (slotRole_eq_grd _ d).mp hr, k⟩]
  | rln sd => rfl
  | pnl d => rfl
  | hdl d => rfl

/-- R14: a placement that nothing bars renews the hold of its slot, but a handle's. -/
theorem takePlacement_of_live {q : Placement} {s : State} {h : Hold} (hm : s.mode = .run)
    (hp : slotRole q.slot ≠ .pool) (hb : ¬ slotBarred s q.slot) (hn : ¬ ∃ d, q.slot = hdlSlot d)
    (hh : s.hold q.slot = some h) : takePlacement q s = renewInternal q h s := by
  unfold takePlacement
  rw [if_neg (fun k => k hm), hh]
  cases hr : slotRole q.slot with
  | pool => exact absurd hr hp
  | grd d => simp [show grdBarred s d = false from
      Bool.eq_false_iff.mpr fun k => hb ⟨d, (slotRole_eq_grd _ d).mp hr, k⟩]
  | rln sd => rfl
  | pnl d => rfl
  | hdl d => exact absurd ⟨d, (slotRole_eq_hdl _ d).mp hr⟩ hn

theorem State.noSlots_raiseDoor (s : State) (k : NoticeKind) (d : Door) : (s.raiseDoor k d).noSlots = s.noSlots := by
  have hT := PortState.blank_raiseDoor s.portT k d
  have hS := PortState.blank_raiseDoor s.portS k d
  simp only [State.noSlots, State.raiseDoor, State.modPort, State.setPort, State.port]
  rw [hT, hS]

theorem slotRole_ne_pool {q : Placement} (h : placementShape q = true) : slotRole q.slot ≠ .pool := by
  intro hp
  simp [placementShape, hp, SlotRole.issuer] at h

/-- R14, R112: a created hold stands in its slot, and a handle's raises EGRESS, as the records are recomputed. -/
theorem createInternal_eq (q : Placement) (s : State) :
    ∃ v, createInternal q s = recompute (slotRole q.slot).scope v ∧ v.noSlots = s.noSlots ∧
      v.slots = (s.fillSlot q.slot (s.startAtOnce (Placement.newHold q s))).slots ∧
      ∀ d, slotRole q.slot = .hdl d → v =
        (s.fillSlot q.slot (s.startAtOnce (Placement.newHold q s))).raiseDoor .egress d := by
  unfold createInternal
  cases hr : slotRole q.slot with
  | hdl d => exact ⟨_, rfl, State.noSlots_raiseDoor _ _ _, rfl, fun e he => by cases he; rfl⟩
  | rln sd => exact ⟨_, rfl, rfl, rfl, fun e he => by cases he⟩
  | pnl d => exact ⟨_, rfl, rfl, rfl, fun e he => by cases he⟩
  | grd d => exact ⟨_, rfl, rfl, rfl, fun e he => by cases he⟩
  | pool => exact ⟨_, rfl, rfl, rfl, fun e he => by cases he⟩

theorem State.slot_fillSlot (s : State) (i j : SlotNo) (h : Hold) :
    (s.fillSlot i h).slot j = if j = i then { s.slot i with hold := some h, lastReason := none, mark := none }
      else s.slot j := State.slot_setSlot_any s i j _

theorem State.slot_setHold (s : State) (i j : SlotNo) (h : Hold) :
    (s.setHold i h).slot j = if j = i then { s.slot i with hold := some h } else s.slot j :=
  State.slot_setSlot_any s i j _

theorem State.slot_eq_of_slots {s t : State} (h : t.slots = s.slots) (j : SlotNo) : t.slot j = s.slot j := by
  simp [State.slot, h]

theorem getLsbD_single (d : Door) : (single d).getLsbD d.val = true := by revert d; decide

/-- R112: a handle's new hold raises EGRESS with its doorway, and the recomputation leaves it. -/
theorem doorNotice_egress (s : State) (d : Door) (sc : DoorSet) :
    DoorNotice 4 PortState.egress d (recompute sc (s.raiseDoor .egress d)).settle := by
  intro p
  have hs : ((recompute sc (s.raiseDoor .egress d)).settle.port p).egress =
      ((recompute sc (s.raiseDoor .egress d)).port p).egress := by cases p <;> rfl
  have he : ((s.port p).raiseDoor .egress d).egress = (s.port p).egress ||| single d := rfl
  rw [kinds_settle, hs, kinds_recompute (.inr rfl), egress_recompute, State.port_raiseDoor,
    PortState.kinds_raiseDoor, he]
  simp [has, getLsbD_single, NoticeKind.bit]

/-- A hold written in place of the one that a slot holds, and the records of a scope recomputed. -/
theorem setHold_event {s s1 : State} (h : TakenFrom s s1) (i : SlotNo) (a : Hold) (sc : DoorSet) :
    let t := (recompute sc (s1.setHold i a)).settle
    TableEvent s t ∧ (∀ j, j ≠ i → t.slot j = s.slot j) ∧ DoorsFollow (fun d => has sc d = true) s1 t ∧
    t.slot i = { s.slot i with hold := some a } := by
  obtain ⟨hev, hf⟩ := recompute_event (v := s1.setHold i a) h rfl sc
  refine ⟨hev, fun j hj => ?_, hf, ?_⟩
  · rw [State.settle_slot, slot_recompute, State.slot_setHold, if_neg hj, h.slot]
  · rw [State.settle_slot, slot_recompute, State.slot_setHold, if_pos rfl, h.slot]

/-- R14: the hold that a renewal in place leaves. -/
theorem startAtOnce_renew {s s1 : State} (ht : TakenFrom s s1) (q : Placement) (h : Hold) :
    s1.startAtOnce (Placement.renew q h) = { h with
      level := q.level, lifetime := q.lifetime, limit := q.limit
      countdown := countdownFor s h.scope (if h.level = 0 then q.waiting else decide (h.countdown = .waiting)) } := by
  rw [startAtOnce_eq, ht.countdownFor]
  simp only [Placement.renew, Hold.inForce]
  by_cases hl : h.level = 0
  · simp [hl, waiting_beq]
  · simp [hl, beq_eq_decide]

/-- R14, R25, R112: a placement that fills its free slot. -/
theorem createInternal_event {s s1 : State} (hts : TakenFrom s s1) (q : Placement) :
    let t := (createInternal q s1).settle
    TableEvent s t ∧ (∀ j, j ≠ q.slot → t.slot j = s.slot j) ∧
    DoorsFollow (fun d => has (slotRole q.slot).scope d = true) s1 t ∧
    (∀ d, q.slot = hdlSlot d → DoorNotice 4 PortState.egress d t) ∧
    t.slot q.slot =
      { hold := some { handle := { epoch := s.epoch, slot := BitVec.ofNat 8 q.slot.val,
                                   generation := (s.slot q.slot).generation }
                       issuer := q.issuer, kind := (slotRole q.slot).kind, scope := (slotRole q.slot).scope
                       level := q.level, lifetime := q.lifetime
                       countdown := countdownFor s (slotRole q.slot).scope q.waiting, limit := q.limit
                       rwl := false, tag := 0#16 }
        generation := (s.slot q.slot).generation, lastReason := none, mark := none } := by
  obtain ⟨v, hv, hns, hsl, hhdl⟩ := createInternal_eq q s1
  obtain ⟨hev, hf⟩ := recompute_event hts hns (slotRole q.slot).scope
  dsimp only
  rw [hv]
  refine ⟨hev, fun j hj => ?_, hf, fun d hd => ?_, ?_⟩
  · rw [State.settle_slot, slot_recompute, State.slot_eq_of_slots hsl, State.slot_fillSlot, if_neg hj, hts.slot]
  · rw [hhdl d ((slotRole_eq_hdl _ d).mpr hd)]
    exact doorNotice_egress _ d _
  · rw [State.settle_slot, slot_recompute, State.slot_eq_of_slots hsl, State.slot_fillSlot, if_pos rfl,
      startAtOnce_eq, hts.countdownFor, Placement.newHold, hts.slot, hts.epoch]
    cases q.waiting <;> rfl

/-- R15: the raise of a hold that is dormant, and of any other. -/
theorem takeRaise_of_awake {i : SlotNo} {s : State} (h : ∀ a ∈ s.hold i, a.level ≠ 0) : takeRaise i s = s := by
  unfold takeRaise
  cases hi : s.hold i with
  | none => rfl
  | some a => simp [Hold.inForce, h a hi]

theorem takeRaise_pnl {d : Door} {s : State} {h : Hold} (hi : s.hold (pnlSlot d) = some h) (hl : h.level = 0) :
    takeRaise (pnlSlot d) s = recompute h.scope (s.setHold (pnlSlot d) (s.startAtOnce
      { h with level := s.cfg.buttonLevel, lifetime := some s.cfg.buttonDwell, countdown := .waiting })) := by
  simp [takeRaise, hi, Hold.inForce, hl, (slotRole_eq_pnl (pnlSlot d) d).mpr rfl]

theorem takeRaise_hdl {d : Door} {s : State} {h : Hold} (hi : s.hold (hdlSlot d) = some h) (hl : h.level = 0) :
    takeRaise (hdlSlot d) s = recompute h.scope (s.setHold (hdlSlot d) { h with level := 7 }) := by
  simp [takeRaise, hi, Hold.inForce, hl, (slotRole_eq_hdl (hdlSlot d) d).mpr rfl]

/-- R15: a raise in any other slot does nothing. -/
theorem takeRaise_other {i : SlotNo} {s : State} (hp : ∀ d, i ≠ pnlSlot d) (hh : ∀ d, i ≠ hdlSlot d) :
    takeRaise i s = s := by
  unfold takeRaise
  cases s.hold i with
  | none => rfl
  | some a =>
    cases hr : slotRole i with
    | pnl d => exact absurd ((slotRole_eq_pnl i d).mp hr) (hp d)
    | hdl d => exact absurd ((slotRole_eq_hdl i d).mp hr) (hh d)
    | rln sd => simp
    | grd d => simp
    | pool => simp

theorem pnlSlot_ne_hdlSlot (d e : Door) : pnlSlot d ≠ hdlSlot e := by revert d e; decide

/-- The placements of O35, by what the slot holds and what bars it. -/
theorem internalPlacement_placed (q : Placement) (s s1 : State) (hw : WellFormed (.internalPlacement q) = true)
    (hts : TakenFrom s s1) :
    let barred : Prop := ∃ d, q.slot = grdSlot d ∧
      ((s.chan d).state = .standing ∨ (s.chan d).state = .faulted ∨ (s.chan d).state = .egress)
    (s.mode = .configure ∨ barred ∨ ((∃ d, q.slot = hdlSlot d) ∧ s.hold q.slot ≠ none) → takePlacement q s1 = s1) ∧
    (s.mode = .run → ¬ barred → s.hold q.slot = none → takePlacement q s1 = createInternal q s1) ∧
    (∀ h, s.mode = .run → ¬ barred → s.hold q.slot = some h → (¬ ∃ d, q.slot = hdlSlot d) →
      takePlacement q s1 = renewInternal q h s1) := by
  intro barred
  have hbar : slotBarred s1 q.slot ↔ barred := by simp only [slotBarred_iff, hts.chan, barred]
  have hpool : slotRole q.slot ≠ .pool := slotRole_ne_pool (Bool.and_eq_true_iff.mp hw).1
  rw [← hbar, ← hts.mode, ← hts.hold]
  exact ⟨takePlacement_of_idle, fun hm hb hh => takePlacement_of_free hm hpool hb hh,
    fun h hm hb hh hn => takePlacement_of_live hm hpool hb hn hh⟩

/-- Settles O35. -/
theorem internalHoldsArePlacedAndRaised : Obligations.InternalHoldsArePlacedAndRaised := by
  refine ⟨?_, ?_⟩
  · intro q s s1 hw hr ht i sc barred
    have hts := TakenFrom.of_takeSent ht
    obtain ⟨hidle, hfree, hlive⟩ := internalPlacement_placed q s s1 hw hts
    refine ⟨_, actSent_of_taken _ hr ht, ?_⟩
    by_cases hk : s.mode = .configure ∨ barred ∨ (∃ d, i = hdlSlot d) ∧ s.hold i ≠ none
    · have hno : s.mode = .run → ¬ barred → (∃ d, i = hdlSlot d) ∧ s.hold i ≠ none := fun hm hb =>
        (hk.resolve_left (by simp [hm])).resolve_left hb
      obtain ⟨hev, hsl, hd, hn⟩ := settle_of_taken hts
      rw [hidle hk]
      exact ⟨hev, fun j _ => State.slot_eq_of_slots hsl j, fun _ => ⟨hsl, hd, hn, rfl⟩,
        fun hm hb hh => absurd hh (hno hm hb).2, fun h hm hb _ hh => absurd (hno hm hb).1 hh⟩
    · obtain ⟨hm, hk⟩ := not_or.mp hk
      obtain ⟨hb, hk⟩ := not_or.mp hk
      have hmode : s.mode = .run := by
        cases hs : s.mode
        · exact absurd hs hm
        · rfl
      cases hi : s.hold i with
      | none =>
        obtain ⟨hev, hoth, hf, hno, hsl⟩ := createInternal_event hts q
        rw [hfree hmode hb hi]
        exact ⟨hev, hoth, fun k => absurd k (by simp [hmode, hb]), fun _ _ _ => ⟨hf, hno, hsl⟩,
          fun h _ _ hh => by cases hh⟩
      | some h =>
        have hnh : ¬ ∃ d, i = hdlSlot d := fun k => hk ⟨k, by simp [hi]⟩
        obtain ⟨hev, hoth, hf, hsl⟩ := setHold_event hts i (s1.startAtOnce (Placement.renew q h)) h.scope
        rw [hlive h hmode hb hi hnh]
        refine ⟨hev, hoth, fun k => absurd k (by simp [hmode, hb, hnh]), fun _ _ k => (by cases k),
          fun h' _ _ hh _ => ?_⟩
        cases Option.some.inj hh
        exact ⟨hf, hsl.trans (by rw [startAtOnce_renew hts])⟩
  · intro i s s1 hr ht
    have hts := TakenFrom.of_takeSent ht
    refine ⟨_, actSent_of_taken _ hr ht, ?_⟩
    by_cases hawake : ∀ a ∈ s.hold i, a.level ≠ 0
    · obtain ⟨hev, hsl, hd, hn⟩ := settle_of_taken hts
      rw [takeRaise_of_awake (fun a ha => hawake a (hts.hold i ▸ ha))]
      exact ⟨hev, fun j _ => State.slot_eq_of_slots hsl j, fun _ => ⟨hsl, hd, hn, rfl⟩,
        fun h _ hi hl => absurd hl (hawake h hi), fun h _ hi hl => absurd hl (hawake h hi)⟩
    · obtain ⟨h, hi, hl⟩ : ∃ h, s.hold i = some h ∧ h.level = 0 := by simpa using hawake
      by_cases hp : ∃ d, i = pnlSlot d
      · obtain ⟨d, rfl⟩ := hp
        obtain ⟨hev, hoth, hf, hsl⟩ := setHold_event hts (pnlSlot d) (s1.startAtOnce
          { h with level := s1.cfg.buttonLevel, lifetime := some s1.cfg.buttonDwell, countdown := .waiting }) h.scope
        rw [takeRaise_pnl ((hts.hold _).trans hi) hl]
        refine ⟨hev, hoth, fun k => absurd k hawake, fun h' _ hh _ _ => ?_,
          fun _ e _ _ k => absurd k (pnlSlot_ne_hdlSlot d e)⟩
        cases Option.some.inj (hi.symm.trans hh)
        exact ⟨hf, hsl.trans (by rw [startAtOnce_eq, hts.countdownFor, hts.cfg]; rfl)⟩
      · by_cases hh : ∃ d, i = hdlSlot d
        · obtain ⟨d, rfl⟩ := hh
          obtain ⟨hev, hoth, hf, hsl⟩ := setHold_event hts (hdlSlot d) { h with level := 7 } h.scope
          rw [takeRaise_hdl ((hts.hold _).trans hi) hl]
          refine ⟨hev, hoth, fun k => absurd k hawake, fun _ e _ _ k => absurd k.symm (pnlSlot_ne_hdlSlot e d),
            fun h' _ hh _ _ => ?_⟩
          cases Option.some.inj (hi.symm.trans hh)
          exact ⟨hf, hsl⟩
        · obtain ⟨hev, hsl, _⟩ := settle_of_taken hts
          rw [takeRaise_other (fun d k => hp ⟨d, k⟩) (fun d k => hh ⟨d, k⟩)]
          exact ⟨hev, fun j _ => State.slot_eq_of_slots hsl j, fun k => absurd k hawake,
            fun _ d _ _ k => absurd ⟨d, k⟩ hp, fun _ d _ _ k => absurd ⟨d, k⟩ hh⟩

end Sys2Proof.Machine
end

section
/-! SUPPORT. A request at a port that is ready for it (R145, R147, R166, R169, R170): what is heard, how it is
carried out, and what its answer changes. -/

namespace Sys2Proof.Machine

open Claims

/-! ### What a good request does at its port (R163, R170) -/

/-- A port after a good request, n being its SUP_TIME. -/
def PortState.heard (n : Nat) (x : PortState) : PortState :=
  { x with
    rx := none, awaitHigh := false
    sup := if n = 0 then x.sup else .active
    supTimer := if n = 0 then x.supTimer else some n }

/-- The part after a good request at a port, before it is carried out. -/
def State.hearRequest (s : State) (p : Port) : State := s.modPort p (PortState.heard (s.cfg.supTime p))

theorem goodRequest_heardWhole (s : State) (p : Port) : goodRequest p (s.heardWhole p) = s.hearRequest p := by
  unfold goodRequest State.hearRequest
  rw [State.heardWhole_cfg]
  split
  · rename_i h
    cases p <;> simp [h, State.heardWhole, State.modPort, State.setPort, State.port, PortState.heard]
  · rename_i h
    cases p <;> simp [h, State.heardWhole, State.modPort, State.setPort, State.port, PortState.heard]

theorem State.issuerOf_hearRequest (s : State) (p : Port) : (s.hearRequest p).issuerOf p = issuerAt p s := by
  cases p <;> rfl

theorem SameToDoors.hearRequest (s : State) (p : Port) : SameToDoors s (s.hearRequest p) := .modPort s p _

theorem State.slots_hearRequest (s : State) (p : Port) : (s.hearRequest p).slots = s.slots := State.modPort_slots s p _

theorem State.slot_hearRequest (s : State) (p : Port) (i : SlotNo) : (s.hearRequest p).slot i = s.slot i :=
  State.modPort_slot_of s p _ i

theorem State.hold_hearRequest (s : State) (p : Port) (i : SlotNo) : (s.hearRequest p).hold i = s.hold i :=
  State.modPort_hold_of s p _ i

/-- A port whose receiver and supervision are those after a good request in s, and whose other fields, but for the
notices, the mask and the answer, are those of s. -/
structure HeardAt (p : Port) (s u : State) : Prop where
  rx : (u.port p).rx = none
  awaitHigh : (u.port p).awaitHigh = false
  sup : (u.port p).sup = if s.cfg.supTime p = 0 then (s.port p).sup else .active
  supTimer : (u.port p).supTimer = if s.cfg.supTime p = 0 then (s.port p).supTimer else some (s.cfg.supTime p)
  buffer : (u.port p).buffer = (s.port p).buffer
  overrun : (u.port p).overrun = (s.port p).overrun
  line : (u.port p).line = (s.port p).line

theorem HeardAt.of_sameLink {p : Port} {s u : State} (h : SameLink p (s.hearRequest p) u) : HeardAt p s u := by
  obtain ⟨h1, h2, _, h4, h5, h6, h7, h8, _⟩ := h
  rw [State.hearRequest, State.port_modPort] at h1 h2 h4 h5 h6 h7 h8
  exact ⟨h1, h2, h6, h7, h4, h5, h8⟩

/-! ### Execution (R145, R147) -/

@[simp] theorem RequestKind.ofCode_code (k : RequestKind) : RequestKind.ofCode k.code = some k := by cases k <;> rfl

/-- A complete request at a running part with a free answer slot is carried out, after a loss of its port. -/
theorem arrive_of_free {p : Port} {s : State} (hr : s.running = true) (hf : (s.port p).slot = .free)
    (k : RequestKind) (seq : Byte) {b : List Byte} (hb : b.length ≤ 30) :
    arrive k p seq b s =
      .next (reply p k.code seq (checked p k.code b (settleLoss p (s.hearRequest p)))).settle := by
  have hslot : ((s.hearRequest p).port p).slot = .free := by
    rw [State.hearRequest, State.port_modPort]
    exact hf
  rw [arrive, act_of_running _ hr]
  simp only [hb, if_true, takeRequest, goodRequest_heardWhole, takeMessage, hslot, execute]
  rfl

theorem settleLoss_of_none {p : Port} {s : State} (h : s.sent.contains (.linkLost p) = false) : settleLoss p s = s := by
  rw [settleLoss, if_neg (by rw [h]; exact Bool.false_ne_true)]

/-- A request at a ready port whose execution answers at once. -/
theorem arrive_answered {p : Port} {s : State} (h : Ready p s) {k : RequestKind} (seq : Byte) {b : List Byte}
    {x : State × Reply} (hb : b.length ≤ 30) (hx : checked p k.code b (s.hearRequest p) = answered x) :
    arrive k p seq b s = .next (x.1.formAnswer p k.code seq x.2 false).settle := by
  obtain ⟨hr, hf, hn⟩ := h
  have hl : settleLoss p (s.hearRequest p) = s.hearRequest p :=
    settleLoss_of_none (by rw [State.hearRequest, State.modPort_sent]; exact hn)
  rw [arrive_of_free hr hf k seq hb, hl, hx]
  rfl

/-- R145: a request that passes the common checks is carried out. -/
theorem checked_of_pass {p : Port} {k : RequestKind} {b : List Byte} {s : State}
    (hs : k.sentBy (s.issuerOf p) = true) (hm : k.allowedIn s.mode = true) (hf : formOk k b = true) :
    checked p k.code b s = perform k p (s.issuerOf p) b s := by
  simp [checked, hs, hm, hf]

/-- R145 check 4: a request of a permitted issuer in a permitted mode whose parameters have a wrong form. -/
theorem checked_of_malformed {p : Port} {k : RequestKind} {b : List Byte} {s : State}
    (hs : k.sentBy (s.issuerOf p) = true) (hm : k.allowedIn s.mode = true) (hf : formOk k b = false) :
    checked p k.code b s = answered (refused s .badRequest) := by
  simp [checked, hs, hm, hf]

/-- The link issuers (R10). -/
theorem issuerAt_cases (p : Port) (s : State) :
    issuerAt p s = .trn ∨ issuerAt p s = .atd ∨ issuerAt p s = .mnt := by
  cases p
  · exact .inl rfl
  · unfold issuerAt
    dsimp only
    split
    · exact .inr (.inr rfl)
    · exact .inr (.inl rfl)

/-- Table 8-1: the requests that every link issuer may send. -/
theorem sentBy_issuerAt {k : RequestKind} (p : Port) (s : State)
    (hk : ∀ x, x = .trn ∨ x = .atd ∨ x = .mnt → k.sentBy x = true) :
    k.sentBy ((s.hearRequest p).issuerOf p) = true := by
  rw [State.issuerOf_hearRequest]
  exact hk _ (issuerAt_cases p s)

/-! ### Answers (R169) -/

/-- The answer raises and clears no notice. -/
theorem kinds_answered (u : State) (p q : Port) (k seq : Byte) (r : Reply) :
    ((u.formAnswer p k seq r false).settle.port q).kinds = (u.port q).kinds := by
  cases p <;> cases q <;> rfl

/-- R169: the answer formed in u to a request heard in s. -/
theorem answers_of_heard {p : Port} {s u : State} (h : HeardAt p s u) (k seq : Byte) (r : Reply) :
    Answers p k seq r.result r.payload s (u.formAnswer p k seq r false).settle ∧
    Supervised p s (u.formAnswer p k seq r false).settle := by
  have hp : (u.formAnswer p k seq r false).settle.port p =
      { u.port p with
        overrun := false, slot := .sending (u.answerFor p k seq r) false
        attention := (u.port p).wantsAttention } := by
    rw [State.settle_port, State.formAnswer, State.port_modPort]
    rfl
  have hfl : u.answerFlags p = flagsByte (s.port p).overrun p (u.formAnswer p k seq r false).settle := by
    have hm : (u.formAnswer p k seq r false).settle.mode = u.mode := State.modPort_mode u p _
    have hc : (u.formAnswer p k seq r false).settle.clu = u.clu := State.modPort_clu u p _
    simp only [State.answerFlags, flagsByte, kinds_answered, hm, hc, h.overrun, ne_eq, ite_not]
  refine ⟨⟨?_, ?_, ?_, ?_, ?_⟩, ?_, ?_⟩
  · rw [hp, State.answerFor, hfl]
  · rw [hp]
  · rw [hp]; exact h.rx
  · rw [hp]; exact h.buffer
  · rw [hp]; exact h.line
  · rw [hp]; exact h.awaitHigh
  · rw [hp]
    have h1 := h.sup
    have h2 := h.supTimer
    split at h1 <;> simp_all

theorem State.port_formAnswer_other (u : State) (p : Port) (k seq : Byte) (r : Reply) :
    (u.formAnswer p k seq r false).port (otherPort p) = u.port (otherPort p) := State.port_modPort_other u p _

/-- The answer and the settled outputs write no slot. -/
theorem slot_answered (u : State) (p : Port) (k seq : Byte) (r : Reply) (i : SlotNo) :
    (u.formAnswer p k seq r false).settle.slot i = u.slot i := State.modPort_slot_of u p _ i

theorem slots_answered (u : State) (p : Port) (k seq : Byte) (r : Reply) :
    (u.formAnswer p k seq r false).settle.slots = u.slots := State.modPort_slots u p _

theorem SameToDoors.answered (u : State) (p : Port) (k seq : Byte) (r : Reply) :
    SameToDoors u (u.formAnswer p k seq r false).settle :=
  (SameToDoors.formAnswer u p k seq r false).trans (.settle _)

/-- A request that changes nothing but its answer, its supervision and the counter of free values. -/
theorem onlyAnswers_of_heard (p : Port) (k seq : Byte) (r : Reply) (s : State) (n : Nat) :
    OnlyAnswers p k seq r.result r.payload s
      ({ s.hearRequest p with free := n : State }.formAnswer p k seq r false).settle := by
  have hh : HeardAt p s { s.hearRequest p with free := n } :=
    .of_sameLink (by cases p <;> exact ⟨rfl, rfl, rfl, rfl, rfl, rfl, rfl, rfl, rfl⟩)
  obtain ⟨ha, hs⟩ := answers_of_heard hh k seq r
  refine ⟨ha, hs, ?_⟩
  cases p <;>
  exact ⟨⟨⟨rfl, rfl, rfl, rfl, rfl, rfl, rfl, rfl, rfl, rfl, rfl, rfl, .inl rfl⟩, rfl, ⟨rfl, rfl, rfl⟩,
    ⟨rfl, rfl, rfl⟩, rfl, rfl⟩, ⟨rfl, rfl, rfl, rfl⟩, rfl, ⟨rfl, rfl, rfl, rfl, rfl, rfl, rfl, rfl, rfl⟩, rfl, rfl, rfl,
    rfl⟩

/-- A request that is answered and changes nothing else. -/
theorem justAnswers_of_refused {c : Instr} {p : Port} {k : RequestKind} {seq : Byte} {b : List Byte} {s : State}
    {r : Reply} (h : Ready p s) (hc : exec c s = arrive k p seq b s) (hb : b.length ≤ 30)
    (hx : checked p k.code b (s.hearRequest p) = answered (s.hearRequest p, r)) :
    JustAnswers c p k seq r.result r.payload s :=
  ⟨_, hc.trans (arrive_answered h seq hb hx), onlyAnswers_of_heard p k.code seq r s (s.hearRequest p).free,
    (State.modPort_free _ p _).trans (State.modPort_free s p _)⟩

/-- A request that was carried out as an event at the table. -/
theorem done_of_tableEvent {p : Port} {k : RequestKind} {s u : State} (seq : Byte) (payload : List Byte)
    (h : TableEvent (s.hearRequest p) u) :
    Done p k seq payload s (u.formAnswer p k.code seq (.ok payload) false).settle ∧
    (u.formAnswer p k.code seq (.ok payload) false).settle.free = s.free := by
  obtain ⟨hc, hl, hu, hf, hT, hS⟩ := h
  have hlink : ∀ q, SameLink q (s.hearRequest p) u := fun q => by
    cases q
    · exact hT
    · exact hS
  obtain ⟨ha, hs⟩ := answers_of_heard (.of_sameLink (hlink p)) k.code seq (.ok payload)
  have hcs : SameControl s u := by cases p <;> exact hc
  have hls : SameLines s u := by cases p <;> exact hl
  have hus : u.clu = s.clu := by cases p <;> exact hu
  have hfs : u.free = s.free := by cases p <;> exact hf
  obtain ⟨_, _, _, _, _, _, _, _, hmask⟩ := hlink p
  refine ⟨⟨ha, hs, sameControl_settle (by cases p <;> exact hcs), by cases p <;> exact hls, by cases p <;> exact hus,
    ?_, ?_⟩, by cases p <;> exact hfs⟩
  · cases p <;> exact hmask
  · cases p
    · exact hlink .s
    · exact hlink .t

/-- What follows the table when the request is carried out follows it when it is answered. -/
theorem doorsFollow_answered {touched : Door → Prop} {s u : State} (h : DoorsFollow touched s u) (p : Port)
    (k seq : Byte) (r : Reply) : DoorsFollow touched s (u.formAnswer p k seq r false).settle :=
  doorsFollow_congr h (.answered u p k seq r) (slots_answered u p k seq r)

end Sys2Proof.Machine
end

section
/-! PROOF. Hold requests are refused by the first check that fails (R13, R16, R17, R19, R20, Tables 1-4 and 1-5). -/

namespace Sys2Proof.Machine

open Claims

/-! ### Parameters on the wire (Table 11-3) -/

theorem halfOf_extract (w : Half) : halfOf (w.extractLsb' 8 8) (w.extractLsb' 0 8) = w := by
  refine BitVec.eq_of_getLsbD_eq (fun i hi => ?_)
  rw [halfOf, BitVec.getLsbD_append, BitVec.getLsbD_extractLsb', BitVec.getLsbD_extractLsb']
  by_cases h : i < 8
  · simp [h]
  · have h8 : i - 8 < 8 := by omega
    have he : 8 + (i - 8) = i := by omega
    simp [h, h8, he]

theorem placeOf_placeBytes (q : PlaceParams) : placeOf (placeBytes q) = q := by
  rcases q with ⟨k, sc, l, o, t, m, g⟩
  simp [placeOf, placeBytes, halfBytes, halfAt, paramAt, halfOf_extract]

theorem amendOf_amendBytes (q : AmendParams) : amendOf (amendBytes q) = q := by
  rcases q with ⟨⟨e, sl, gen⟩, mk, l, sc, m, rwl, g⟩
  simp [amendOf, amendBytes, handleBytes, handleAt, halfBytes, halfAt, paramAt, halfOf_extract]

theorem handleAt_handleBytes (h : Handle) (b : List Byte) : handleAt (handleBytes h ++ b) 0 = h := rfl

theorem handleAt_renewBytes (h : Handle) (l : Half) : handleAt (renewBytes h l) 0 = h := rfl

theorem halfAt_renewBytes (h : Handle) (l : Half) : halfAt (renewBytes h l) 3 = l := halfOf_extract l

theorem formOk_place (q : PlaceParams) : formOk .place (placeBytes q) = decide (q.options &&& 0xFC#8 = 0#8) := rfl

theorem formOk_amend (q : AmendParams) : formOk .amend (amendBytes q) = decide (q.marks &&& 0xE0#8 = 0#8) := rfl

/-! ### Values in range (R8, R9, Table 8-3) -/

theorem lifetimeOfHalf_eq (w : Half) : lifetimeOfHalf w = if LifetimeOk w then some (lifetimeIn w) else none := by
  unfold lifetimeOfHalf lifetimeIn LifetimeOk
  by_cases h : w = 0xFFFF#16
  · simp [h]
  · simp [h]

theorem limitOfHalf_eq (w : Half) : limitOfHalf w = if LimitOk w then some (limitIn w) else none := by
  unfold limitOfHalf limitIn LimitOk
  by_cases h : w = 0xFFFF#16
  · simp [h]
  · simp [h]

theorem levelOfByte_eq (b : Byte) :
    levelOfByte b = if b.toNat < 8 then some (Fin.ofNat 8 b.toNat) else none := by
  unfold levelOfByte
  split
  · rename_i h
    simp [Fin.ext_iff, Nat.mod_eq_of_lt h]
  · rfl

theorem val_ofNat_level {b : Byte} (h : b.toNat < 8) : (Fin.ofNat 8 b.toNat).val = b.toNat := Nat.mod_eq_of_lt h

theorem bitOfByte_eq (b : Byte) : bitOfByte b = if b.toNat < 2 then some (b == 1#8) else none := by
  revert b; decide +kernel

theorem kindOfByte_eq_none (b : Byte) : kindOfByte b = none ↔ 5 ≤ b.toNat := by revert b; decide +kernel

/-! ### The columns of Tables 1-4 and 1-5 -/

theorem mayPlace_iff (x : Issuer) (k : HoldKind) : mayPlace x k = true ↔ k ∈ kindsColumn x := by
  cases x <;> cases k <;> decide

theorem levelCap_eq (x : Issuer) : levelCap x = capColumn x := by cases x <;> rfl

theorem quotaOf_eq (x : Issuer) : quotaOf x = quotaColumn x := by cases x <;> rfl

/-- Table 1-5, for the issuers that send requests. -/
theorem mayRetire_iff (y : Issuer) {x : Issuer} (hx : x = .trn ∨ x = .atd ∨ x = .mnt) :
    mayRetire y x = true ↔ x ∈ retirersColumn y := by
  rcases hx with rfl | rfl | rfl <;> cases y <;> decide

theorem allFitted_iff (s : State) (sc : DoorSet) : allFitted s sc = true ↔ ScopeFitted s sc := by
  simp only [allFitted, List.all_eq_true, mem_doors, forall_const, Bool.or_eq_true, Bool.not_eq_true', ScopeFitted]
  refine forall_congr' fun d => ?_
  cases has sc d <;> simp

theorem isSingle_iff (sc : DoorSet) : isSingle sc = true ↔ ∃ d : Door, sc = single d := by
  simp only [isSingle, List.any_eq_true, beq_iff_eq]
  exact ⟨fun ⟨d, _, k⟩ => ⟨d, k⟩, fun ⟨d, k⟩ => ⟨d, mem_doors d, k⟩⟩

theorem limitFits_iff (s : State) (sc : DoorSet) (l : Nat) : limitFits s sc l = true ↔
    ∀ d : Door, has sc d = true → s.cfg.plugPoint d + 1 ≤ l ∧ l ≤ s.cfg.openEnd d := by
  simp only [limitFits, List.all_eq_true, mem_doors, forall_const, Bool.or_eq_true, Bool.not_eq_true',
    Bool.and_eq_true, decide_eq_true_eq]
  refine forall_congr' fun d => ?_
  cases has sc d <;> simp

/-- R9. -/
theorem obeysR9_iff (s : State) (k : HoldKind) (sc : DoorSet) (w : Bool) (m : Option Nat) (rwl : Bool) :
    obeysR9 s k sc w m rwl = true ↔ OptionalOk s k sc w m rwl := by
  simp only [obeysR9, OptionalOk, Bool.and_eq_true, ← isSingle_iff, ← limitFits_iff, and_assoc]
  refine and_congr ?_ (and_congr ?_ ?_)
  · cases w <;> simp
  · cases m <;> simp
  · cases rwl <;> simp

theorem optionsFit_iff (s : State) (k : HoldKind) (sc : DoorSet) (w : Bool) (m : Option Nat) (rwl : Bool) :
    (!(allFitted s sc && obeysR9 s k sc w m rwl)) = true ↔ ¬ ScopeFitted s sc ∨ ¬ OptionalOk s k sc w m rwl := by
  rw [← allFitted_iff, ← obeysR9_iff]
  cases allFitted s sc <;> cases obeysR9 s k sc w m rwl <;> simp

/-! ### PLACE (R13) -/

/-- What a PLACE of kind k asks, its values being in range. -/
def askedBy (k : HoldKind) (q : PlaceParams) : PlaceAsked :=
  { kind := k, scope := q.scope, level := Fin.ofNat 8 q.level.toNat, waiting := q.options.getLsbD 0
    rwl := q.options.getLsbD 1, lifetime := lifetimeIn q.lifetime, limit := limitIn q.openLimit, tag := q.tag }

/-- R13 check 2: a value of a PLACE is out of range. -/
abbrev PlaceOutOfRange (q : PlaceParams) : Prop :=
  q.scope = 0#8 ∨ 8 ≤ q.level.toNat ∨ ¬ LifetimeOk q.lifetime ∨ ¬ LimitOk q.openLimit

theorem placeAsked_eq (q : PlaceParams) :
    placeAsked q = (kindOfByte q.kind).bind (fun k => if PlaceOutOfRange q then none else some (askedBy k q)) := by
  unfold placeAsked
  rw [levelOfByte_eq, lifetimeOfHalf_eq, limitOfHalf_eq]
  cases kindOfByte q.kind with
  | none => rfl
  | some k =>
    by_cases h0 : q.scope = 0#8 <;> by_cases h1 : q.level.toNat < 8 <;> by_cases h2 : LifetimeOk q.lifetime <;>
      by_cases h3 : LimitOk q.openLimit <;> simp [PlaceOutOfRange, askedBy, h0, h1, h2, h3]

theorem lowestFree_eq_none (s : State) :
    s.lowestFree = none ↔ ∀ i : SlotNo, isPool i = true → (s.hold i).isSome = true := by
  simp [State.lowestFree, poolSlots, mem_slotNos, Option.isSome_iff_ne_none]

/-- R13, from check 3 on, with the parameters in range. -/
theorem doPlace_of_inRange (x : Issuer) {q : PlaceParams} (s : State) {k : HoldKind}
    (hk : kindOfByte q.kind = some k) (hr : ¬ PlaceOutOfRange q) :
    doPlace x q s =
      if k ∉ kindsColumn x then refused s .notPermitted
      else if capColumn x < q.level.toNat then refused s .levelDenied
      else if ¬ ScopeFitted s q.scope ∨
        ¬ OptionalOk s k q.scope (q.options.getLsbD 0) (limitIn q.openLimit) (q.options.getLsbD 1)
      then refused s .badRequest
      else if quotaColumn x ≤ s.liveCount x then refused s .quota
      else match s.lowestFree with
        | none => refused s .tableFull
        | some i => placeIn (askedBy k q) x i s := by
  have ha : placeAsked q = some (askedBy k q) := by simp [placeAsked_eq, hk, hr]
  have hl : (askedBy k q).level.val = q.level.toNat :=
    val_ofNat_level (Nat.lt_of_not_le fun k => hr (.inr (.inl k)))
  have hm : (!mayPlace x (askedBy k q).kind) = true ↔ k ∉ kindsColumn x := by
    rw [← mayPlace_iff]
    simp [askedBy]
  simp only [doPlace, ha, hl, hm, levelCap_eq, quotaOf_eq, optionsFit_iff]
  rfl

/-- R13: a PLACE is refused by the first check that fails, or fills the lowest free pool slot. -/
theorem doPlace_cases (x : Issuer) {q : PlaceParams} (s : State) {k : HoldKind} (hk : kindOfByte q.kind = some k) :
    (∃ r, placeRefusal x q s = some r ∧ doPlace x q s = refused s r) ∨
    ∃ i, placeRefusal x q s = none ∧ s.lowestFree = some i ∧ doPlace x q s = placeIn (askedBy k q) x i s := by
  unfold placeRefusal
  rw [hk]
  dsimp only
  by_cases hr : PlaceOutOfRange q
  · exact .inl ⟨_, if_pos hr, by simp [doPlace, placeAsked_eq, hk, hr]⟩
  rw [if_neg hr, doPlace_of_inRange x s hk hr]
  by_cases h3 : k ∉ kindsColumn x
  · exact .inl ⟨_, if_pos h3, if_pos h3⟩
  rw [if_neg h3, if_neg h3]
  by_cases h4 : capColumn x < q.level.toNat
  · exact .inl ⟨_, if_pos h4, if_pos h4⟩
  rw [if_neg h4, if_neg h4]
  by_cases h5 : ¬ ScopeFitted s q.scope ∨
    ¬ OptionalOk s k q.scope (q.options.getLsbD 0) (limitIn q.openLimit) (q.options.getLsbD 1)
  · exact .inl ⟨_, if_pos h5, if_pos h5⟩
  rw [if_neg h5, if_neg h5]
  by_cases h6 : quotaColumn x ≤ s.liveCount x
  · exact .inl ⟨_, if_pos h6, if_pos h6⟩
  rw [if_neg h6, if_neg h6]
  cases hl : s.lowestFree with
  | none => exact .inl ⟨_, if_pos ((lowestFree_eq_none s).mp hl), rfl⟩
  | some i =>
    refine .inr ⟨i, if_neg (fun h => ?_), rfl, rfl⟩
    rw [(lowestFree_eq_none s).mpr h] at hl
    cases hl

/-- R13: a PLACE that fails a check is refused by the first one. -/
theorem doPlace_refused {x : Issuer} {q : PlaceParams} {s : State} {r : Result} (h : placeRefusal x q s = some r) :
    doPlace x q s = refused s r := by
  cases hk : kindOfByte q.kind with
  | none =>
    simp only [placeRefusal, hk] at h
    cases h
    simp [doPlace, placeAsked_eq, hk]
  | some k =>
    rcases doPlace_cases x s hk with ⟨r', hr, hd⟩ | ⟨i, hn, _⟩
    · cases h.symm.trans hr
      exact hd
    · rw [hn] at h
      cases h

/-- R13: a PLACE that passes every check fills the lowest free pool slot. -/
theorem doPlace_passed {x : Issuer} {q : PlaceParams} {s : State} {k : HoldKind} (h : placeRefusal x q s = none)
    (hk : kindOfByte q.kind = some k) :
    ∃ i, s.lowestFree = some i ∧ doPlace x q s = placeIn (askedBy k q) x i s := by
  rcases doPlace_cases x s hk with ⟨r, hr, _⟩ | ⟨i, _, hi⟩
  · rw [h] at hr
    cases hr
  · exact ⟨i, hi⟩

/-! ### Requests that name a hold (R16, R17, R19) -/

/-- A request that names a hold is refused where its handle does not resolve LIVE, or goes on with the hold. -/
theorem onLive_cases {hd : Handle} {s : State} {f : SlotNo → Hold → State × Reply} {g : SlotNo → Hold → Option Reply}
    {r : Reply} (hfg : ∀ i h, g i h = some r → f i h = (s, r)) (h : onHandle s hd g = some r) :
    onLive hd s f = (s, r) := by
  unfold onHandle at h
  unfold onLive
  cases hr : s.resolveHandle hd with
  | live i a => rw [hr] at h; exact hfg i a h
  | retired r' => rw [hr] at h; cases h; rfl
  | stale => rw [hr] at h; cases h; rfl

theorem onLive_of_live {hd : Handle} {s : State} {i : SlotNo} {h : Hold} (hl : s.resolveHandle hd = .live i h)
    (f : SlotNo → Hold → State × Reply) : onLive hd s f = f i h := by
  simp [onLive, hl]

theorem onHandle_of_live {hd : Handle} {s : State} {i : SlotNo} {h : Hold} (hl : s.resolveHandle hd = .live i h)
    (g : SlotNo → Hold → Option Reply) : onHandle s hd g = g i h := by
  simp [onHandle, hl]

/-- R16 check 2: a given value of an AMEND is out of range. -/
abbrev AmendOutOfRange (q : AmendParams) : Prop :=
  (q.marks.getLsbD 0 = true ∧ 8 ≤ q.level.toNat) ∨ (q.marks.getLsbD 1 = true ∧ q.scope = 0#8) ∨
  (q.marks.getLsbD 2 = true ∧ ¬ LimitOk q.openLimit) ∨ (q.marks.getLsbD 3 = true ∧ 2 ≤ q.rwl.toNat)

/-- What an AMEND asks, its given values being in range. -/
def amendedBy (q : AmendParams) : AmendAsked :=
  { level := if q.marks.getLsbD 0 then some (Fin.ofNat 8 q.level.toNat) else none
    scope := if q.marks.getLsbD 1 then some q.scope else none
    limit := if q.marks.getLsbD 2 then some (limitIn q.openLimit) else none
    rwl := if q.marks.getLsbD 3 then some (q.rwl == 1#8) else none
    tag := if q.marks.getLsbD 4 then some q.tag else none }

/-- One field of an AMEND: it is out of range only where it is given. -/
theorem givenField_ite {α : Type} (m : Bool) (c : Prop) [Decidable c] (v : α) :
    givenField m (if c then some v else none) =
      if m = true ∧ ¬ c then none else some (if m = true then some v else none) := by
  cases m <;> by_cases h : c <;> simp [givenField, h]

theorem amendAsked_eq (q : AmendParams) :
    amendAsked q = if AmendOutOfRange q then none else some (amendedBy q) := by
  have hsc : (if q.scope = 0#8 then none else some q.scope) = if q.scope ≠ 0#8 then some q.scope else none :=
    (ite_not _ _ _).symm
  unfold amendAsked
  rw [levelOfByte_eq, limitOfHalf_eq, bitOfByte_eq, hsc, givenField_ite, givenField_ite, givenField_ite, givenField_ite]
  by_cases h0 : q.marks.getLsbD 0 = true ∧ ¬ q.level.toNat < 8
  · have ho : AmendOutOfRange q := .inl ⟨h0.1, Nat.not_lt.mp h0.2⟩
    rw [if_pos h0, if_pos ho]
  by_cases h1 : q.marks.getLsbD 1 = true ∧ ¬ q.scope ≠ 0#8
  · have ho : AmendOutOfRange q := .inr (.inl ⟨h1.1, not_not.mp h1.2⟩)
    rw [if_neg h0, if_pos h1, if_pos ho]
  by_cases h2 : q.marks.getLsbD 2 = true ∧ ¬ LimitOk q.openLimit
  · have ho : AmendOutOfRange q := .inr (.inr (.inl h2))
    rw [if_neg h0, if_neg h1, if_pos h2, if_pos ho]
  by_cases h3 : q.marks.getLsbD 3 = true ∧ ¬ q.rwl.toNat < 2
  · have ho : AmendOutOfRange q := .inr (.inr (.inr ⟨h3.1, Nat.not_lt.mp h3.2⟩))
    rw [if_neg h0, if_neg h1, if_neg h2, if_pos h3, if_pos ho]
  have ho : ¬ AmendOutOfRange q := by
    rintro (k | k | k | k)
    · exact h0 ⟨k.1, Nat.not_lt.mpr k.2⟩
    · exact h1 ⟨k.1, not_not.mpr k.2⟩
    · exact h2 k
    · exact h3 ⟨k.1, Nat.not_lt.mpr k.2⟩
  rw [if_neg h0, if_neg h1, if_neg h2, if_neg h3, if_neg ho]
  rfl

theorem applied_amendedBy (q : AmendParams) (h : Hold) : (amendedBy q).applied h = amended q h := by
  simp only [AmendAsked.applied, amendedBy, amended]
  congr 1 <;> split <;> rfl

/-- R16 check 5: the level cap, of a level that is given. -/
theorem levelCap_amendedBy (x : Issuer) {q : AmendParams} (hr : ¬ AmendOutOfRange q) :
    levelCap x < ((amendedBy q).level.getD 0).val ↔ q.marks.getLsbD 0 = true ∧ capColumn x < q.level.toNat := by
  rw [levelCap_eq]
  cases hm : q.marks.getLsbD 0
  · rw [amendedBy, hm]
    simp
  · have hl : q.level.toNat < 8 := Nat.lt_of_not_le fun k => hr (.inl ⟨hm, k⟩)
    simp only [amendedBy, hm, if_true, Option.getD_some, val_ofNat_level hl, true_and]

/-- R16, from check 3 on, with the given values in range. -/
theorem doAmend_of_inRange (x : Issuer) {q : AmendParams} (s : State) (hr : ¬ AmendOutOfRange q) :
    doAmend x q s = onLive q.handle s (fun i h =>
      if h.issuer ≠ x then refused s .notPermitted
      else if q.marks.getLsbD 0 = true ∧ capColumn x < q.level.toNat then refused s .levelDenied
      else if ¬ ScopeFitted s (amended q h).scope ∨
        ¬ OptionalOk s h.kind (amended q h).scope (h.countdown == .waiting) (amended q h).limit (amended q h).rwl
      then refused s .badRequest
      else (amendIn (amendedBy q) i h s, .ok [])) := by
  have ha : amendAsked q = some (amendedBy q) := by rw [amendAsked_eq, if_neg hr]
  simp only [doAmend, ha, applied_amendedBy, levelCap_amendedBy x hr, optionsFit_iff]
  rfl

/-- R16: an AMEND that fails a check is refused by the first one. -/
theorem doAmend_refused {x : Issuer} {q : AmendParams} {s : State} {r : Reply} (h : amendRefusal x q s = some r) :
    doAmend x q s = (s, r) := by
  unfold amendRefusal at h
  by_cases hr : AmendOutOfRange q
  · rw [if_pos hr] at h
    cases h
    rw [doAmend, amendAsked_eq, if_pos hr]
    rfl
  rw [if_neg hr] at h
  rw [doAmend_of_inRange x s hr]
  refine onLive_cases (fun i a hg => ?_) h
  by_cases h4 : a.issuer ≠ x
  · rw [if_pos h4] at hg ⊢; cases hg; rfl
  rw [if_neg h4] at hg ⊢
  by_cases h5 : q.marks.getLsbD 0 = true ∧ capColumn x < q.level.toNat
  · rw [if_pos h5] at hg ⊢; cases hg; rfl
  rw [if_neg h5] at hg ⊢
  by_cases h6 : ¬ ScopeFitted s (amended q a).scope ∨
    ¬ OptionalOk s a.kind (amended q a).scope (a.countdown == .waiting) (amended q a).limit (amended q a).rwl
  · rw [if_pos h6] at hg ⊢; cases hg; rfl
  · rw [if_neg h6] at hg; cases hg

/-- R16: an AMEND that passes every check is applied. -/
theorem doAmend_passed {x : Issuer} {q : AmendParams} {s : State} {i : SlotNo} {h : Hold}
    (hn : amendRefusal x q s = none) (hl : s.resolveHandle q.handle = .live i h) :
    doAmend x q s = (amendIn (amendedBy q) i h s, .ok []) := by
  unfold amendRefusal at hn
  by_cases hr : AmendOutOfRange q
  · rw [if_pos hr] at hn
    cases hn
  rw [if_neg hr, onHandle_of_live hl] at hn
  rw [doAmend_of_inRange x s hr, onLive_of_live hl]
  split at hn
  · cases hn
  rename_i h4
  split at hn
  · cases hn
  rename_i h5
  split at hn
  · cases hn
  rename_i h6
  rw [if_neg h4, if_neg h5, if_neg h6]

/-- R17: a RENEW that fails a check is refused by the first one. -/
theorem doRenew_refused {x : Issuer} {hd : Handle} {l : Half} {s : State} {r : Reply}
    (h : renewRefusal x hd l s = some r) : doRenew x hd l s = (s, r) := by
  unfold renewRefusal at h
  unfold doRenew
  rw [lifetimeOfHalf_eq]
  by_cases hl : LifetimeOk l
  · rw [if_neg (not_not.mpr hl)] at h
    rw [if_pos hl]
    refine onLive_cases (fun i a hg => ?_) h
    split at hg
    · rename_i h4
      cases hg
      rw [if_pos h4]
      rfl
    · cases hg
  · rw [if_pos hl] at h
    cases h
    rw [if_neg hl]
    rfl

/-- R17: a RENEW that passes every check is applied. -/
theorem doRenew_passed {x : Issuer} {hd : Handle} {l : Half} {s : State} {i : SlotNo} {h : Hold}
    (hn : renewRefusal x hd l s = none) (hl : s.resolveHandle hd = .live i h) :
    doRenew x hd l s = (recompute h.scope (s.setHold i { h with lifetime := lifetimeIn l }), .ok []) := by
  unfold renewRefusal at hn
  unfold doRenew
  rw [lifetimeOfHalf_eq]
  split at hn
  · cases hn
  rename_i hk
  rw [onHandle_of_live hl] at hn
  rw [if_pos (not_not.mp hk)]
  dsimp only
  rw [onLive_of_live hl]
  split at hn
  · cases hn
  rename_i h4
  rw [if_neg h4]

/-- R12, R19 check 5: the handle line that keeps an HDL hold. -/
theorem handleActive_iff (s : State) (i : SlotNo) (h : Hold) :
    handleActive s i h = true ↔ h.issuer = .hdl ∧ ∃ d : Door, i = hdlSlot d ∧ s.asserted (.hdl d) = true := by
  rw [handleActive, Bool.and_eq_true, beq_iff_eq]
  refine and_congr_right fun _ => ?_
  simp only [← slotRole_eq_hdl]
  cases slotRole i <;> simp

/-- R19: a RETIRE that fails a check is refused by the first one. -/
theorem doRetire_refused {x : Issuer} (hx : x = .trn ∨ x = .atd ∨ x = .mnt) {hd : Handle} {s : State} {r : Reply}
    (h : retireRefusal x hd s = some r) : doRetire x hd s = (s, r) := by
  refine onLive_cases (fun i a hg => ?_) h
  by_cases h4 : x ∉ retirersColumn a.issuer
  · rw [if_pos h4] at hg
    cases hg
    rw [← mayRetire_iff a.issuer hx] at h4
    rw [if_pos (by simpa using h4)]
    rfl
  · rw [if_neg h4] at hg
    rw [not_not, ← mayRetire_iff a.issuer hx] at h4
    rw [if_neg (by simp [h4])]
    simp only [← handleActive_iff] at hg
    split at hg
    · rename_i h5
      cases hg
      rw [if_pos h5]
      rfl
    · cases hg

/-- R19: a RETIRE that passes every check retires its hold. -/
theorem doRetire_passed {x : Issuer} (hx : x = .trn ∨ x = .atd ∨ x = .mnt) {hd : Handle} {s : State} {i : SlotNo}
    {h : Hold} (hn : retireRefusal x hd s = none) (hl : s.resolveHandle hd = .live i h) :
    doRetire x hd s = (tableRetire [i] .requested (h.issuer == x) s, .ok []) := by
  rw [retireRefusal, onHandle_of_live hl] at hn
  rw [doRetire, onLive_of_live hl]
  split at hn
  · cases hn
  rename_i h4
  rw [not_not, ← mayRetire_iff h.issuer hx] at h4
  simp only [← handleActive_iff] at hn
  split at hn
  · cases hn
  rename_i h5
  rw [if_neg (by simp [h4]), if_neg h5]

/-! ### The checks read what a good request leaves alone -/

theorem placeRefusal_hearRequest (x : Issuer) (q : PlaceParams) (s : State) (p : Port) :
    placeRefusal x q (s.hearRequest p) = placeRefusal x q s := by cases p <;> rfl
theorem amendRefusal_hearRequest (x : Issuer) (q : AmendParams) (s : State) (p : Port) :
    amendRefusal x q (s.hearRequest p) = amendRefusal x q s := by cases p <;> rfl
theorem renewRefusal_hearRequest (x : Issuer) (hd : Handle) (l : Half) (s : State) (p : Port) :
    renewRefusal x hd l (s.hearRequest p) = renewRefusal x hd l s := by cases p <;> rfl
theorem retireRefusal_hearRequest (x : Issuer) (hd : Handle) (s : State) (p : Port) :
    retireRefusal x hd (s.hearRequest p) = retireRefusal x hd s := by cases p <;> rfl

end Sys2Proof.Machine
end

section
/-! PROOF. The requests at the Hold Table that are refused, and those that pass (R13 to R20, R25, R26, R41). -/

namespace Sys2Proof.Machine

open Claims

/-! ### The common checks of a request in RUN (R145) -/

/-- A well-formed request that every link issuer may send, in a permitted mode, is carried out. -/
theorem checked_hearRequest {p : Port} {s : State} {k : RequestKind} {b : List Byte}
    (hk : ∀ x, x = .trn ∨ x = .atd ∨ x = .mnt → k.sentBy x = true) (hm : k.allowedIn s.mode = true)
    (hf : formOk k b = true) :
    checked p k.code b (s.hearRequest p) = perform k p (issuerAt p s) b (s.hearRequest p) := by
  have hmode : (s.hearRequest p).mode = s.mode := State.modPort_mode s p _
  rw [checked_of_pass (sentBy_issuerAt p s hk) (by rw [hmode]; exact hm) hf, State.issuerOf_hearRequest]

/-- One with parameters of a wrong form is refused. -/
theorem checked_hearRequest_malformed {p : Port} {s : State} {k : RequestKind} {b : List Byte}
    (hk : ∀ x, x = .trn ∨ x = .atd ∨ x = .mnt → k.sentBy x = true) (hm : k.allowedIn s.mode = true)
    (hf : formOk k b = false) :
    checked p k.code b (s.hearRequest p) = answered (s.hearRequest p, .refuse .badRequest) := by
  have hmode : (s.hearRequest p).mode = s.mode := State.modPort_mode s p _
  exact checked_of_malformed (sentBy_issuerAt p s hk) (by rw [hmode]; exact hm) hf

/-- The requests of Chapter 1 that RUN alone admits, as they are carried out. -/
theorem checked_place {p : Port} {s : State} (hm : s.mode = .run) {q : PlaceParams} (hq : q.options &&& 0xFC#8 = 0#8) :
    checked p RequestKind.place.code (placeBytes q) (s.hearRequest p) =
      answered (doPlace (issuerAt p s) q (s.hearRequest p)) := by
  rw [checked_hearRequest (by rintro x (rfl | rfl | rfl) <;> rfl) (by rw [hm]; rfl)
    (by rw [formOk_place]; exact decide_eq_true hq), perform, placeOf_placeBytes]

theorem checked_amend {p : Port} {s : State} (hm : s.mode = .run) {q : AmendParams} (hq : q.marks &&& 0xE0#8 = 0#8) :
    checked p RequestKind.amend.code (amendBytes q) (s.hearRequest p) =
      answered (doAmend (issuerAt p s) q (s.hearRequest p)) := by
  rw [checked_hearRequest (by rintro x (rfl | rfl | rfl) <;> rfl) (by rw [hm]; rfl)
    (by rw [formOk_amend]; exact decide_eq_true hq), perform, amendOf_amendBytes]

theorem checked_renew {p : Port} {s : State} (hm : s.mode = .run) (hd : Handle) (l : Half) :
    checked p RequestKind.renew.code (renewBytes hd l) (s.hearRequest p) =
      answered (doRenew (issuerAt p s) hd l (s.hearRequest p)) := by
  rw [checked_hearRequest (by rintro x (rfl | rfl | rfl) <;> rfl) (by rw [hm]; rfl) rfl, perform,
    handleAt_renewBytes, halfAt_renewBytes]

theorem checked_retire {p : Port} {s : State} (hm : s.mode = .run) (hd : Handle) :
    checked p RequestKind.retire.code (handleBytes hd) (s.hearRequest p) =
      answered (doRetire (issuerAt p s) hd (s.hearRequest p)) := by
  rw [checked_hearRequest (by rintro x (rfl | rfl | rfl) <;> rfl) (by rw [hm]; rfl) rfl]
  rfl

theorem checked_withdraw {p : Port} {s : State} (hm : s.mode = .run) (k : Byte) :
    checked p RequestKind.withdraw.code [k] (s.hearRequest p) =
      answered (doWithdraw (issuerAt p s) k (s.hearRequest p)) := by
  rw [checked_hearRequest (by rintro x (rfl | rfl | rfl) <;> rfl) (by rw [hm]; rfl) rfl]
  rfl

/-- Settles O12: the check that the statement names first is the one at which the request turns back. -/
theorem holdRequestsAreRefusedInOrder : Obligations.HoldRequestsAreRefusedInOrder := by
  intro p seq s h hm
  refine ⟨fun q hq => ?_, fun q r hq hr => ?_, fun q hq => ?_, fun q r hq hr => ?_, fun hd l r hr => ?_,
    fun hd r hr => ?_, fun k hk h5 => ?_⟩
  · exact justAnswers_of_refused (r := .refuse .badRequest) h rfl (by simp [placeBytes, halfBytes])
      (checked_hearRequest_malformed (by rintro x (rfl | rfl | rfl) <;> rfl) (by rw [hm]; rfl)
        (by rw [formOk_place]; exact decide_eq_false hq))
  · refine justAnswers_of_refused (r := .refuse r) h rfl (by simp [placeBytes, halfBytes]) ?_
    rw [checked_place hm hq, doPlace_refused ((placeRefusal_hearRequest _ q s p).trans hr)]
    rfl
  · exact justAnswers_of_refused (r := .refuse .badRequest) h rfl (by simp [amendBytes, handleBytes, halfBytes])
      (checked_hearRequest_malformed (by rintro x (rfl | rfl | rfl) <;> rfl) (by rw [hm]; rfl)
        (by rw [formOk_amend]; exact decide_eq_false hq))
  · refine justAnswers_of_refused h rfl (by simp [amendBytes, handleBytes, halfBytes]) ?_
    rw [checked_amend hm hq, doAmend_refused ((amendRefusal_hearRequest _ q s p).trans hr)]
  · refine justAnswers_of_refused h rfl (by simp [renewBytes, handleBytes, halfBytes]) ?_
    rw [checked_renew hm, doRenew_refused ((renewRefusal_hearRequest _ hd l s p).trans hr)]
  · refine justAnswers_of_refused h rfl (by simp [handleBytes]) ?_
    rw [checked_retire hm, doRetire_refused (issuerAt_cases p s) ((retireRefusal_hearRequest _ hd s p).trans hr)]
  · refine justAnswers_of_refused (r := .refuse .badRequest) h rfl (by simp) ?_
    rw [checked_withdraw hm, doWithdraw, filterOf, if_neg hk, (kindOfByte_eq_none k).mpr h5]
    rfl

/-! ### A hold put into a slot (R13, R16, R26) -/

/-- R26: a hold put into slot i stays there, or leaves at once where it is fulfilled. In w the slot is x with the
hold. -/
theorem holdsOrFulfils_examine {s w t : State} {i : SlotNo} {h : Hold} {x : Slot}
    (hwi : w.slot i = { x with hold := some h }) (hwj : ∀ j, j ≠ i → w.slot j = s.slot j)
    (hc : ∀ d, w.cluDoor d = s.cluDoor d) (hg : x.generation = (s.slot i).generation)
    (hm : isPool i = true ∨ x.mark = (s.slot i).mark) (ht : ∀ j, t.slot j = (examine i w).slot j)
    (hk : ∀ q, (t.port q).kinds.getLsbD 1 = ((examine i w).port q).kinds.getLsbD 1) :
    HoldsOrFulfils i h x s t := by
  have hi : w.hold i = some h := congrArg Slot.hold hwi
  have hful : fulfilled w h = true ↔ h.rwl = true ∧ Proven s h.scope := by
    rw [fulfilled, Bool.and_eq_true, scopeProven_eq]
    simp only [Proven, hc]
  refine ⟨fun j hj => ?_, ?_⟩
  · rw [ht, slot_examine_of_ne _ hj, hwj j hj]
  · split
    · rename_i hf
      have hret : examine i w = w.retireSlot i .fulfilled false := by simp [examine, hi, hful.mpr hf]
      refine ⟨?_, fun hp => ?_⟩
      · rw [ht, slot_examine, hi]
        simp only [hful.mpr hf, if_true, hwi, Slot.retired, fulfilledSlot, hg]
        rcases hm with hm | hm <;> simp [hm]
      · rw [← issuerPort_eq, hk, hret]
        exact kinds_retireSlot w .fulfilled hi hp
    · rename_i hf
      rw [ht, slot_examine, hi]
      simp [mt hful.mp hf, hwi]

/-- A request that puts a hold into a slot and has the records of a scope recomputed. -/
theorem putHold_answered {p : Port} {s : State} {i : SlotNo} {h : Hold} {x : Slot} {sc : DoorSet}
    {touched : Door → Prop} (k : RequestKind) (seq : Byte) (payload : List Byte)
    (hg : x.generation = (s.slot i).generation) (hm : isPool i = true ∨ x.mark = (s.slot i).mark)
    (htouch : ∀ d, touched d ↔ has sc d = true) :
    let u := recompute sc (examine i ((s.hearRequest p).setSlot i { x with hold := some h }))
    let t := (u.formAnswer p k.code seq (.ok payload) false).settle
    Done p k seq payload s t ∧ t.free = s.free ∧ DoorsFollow touched s t ∧ HoldsOrFulfils i h x s t := by
  have hns : (examine i ((s.hearRequest p).setSlot i { x with hold := some h })).noSlots = (s.hearRequest p).noSlots :=
    (State.noSlots_examine _ i).trans (State.noSlots_setSlot _ i _)
  have hev := tableEvent_of_offTable ((State.offTable_of_bare
    (bare_recompute sc (examine i ((s.hearRequest p).setSlot i { x with hold := some h })))).trans
      (State.offTable_of_noSlots hns))
  obtain ⟨hdone, hfree⟩ := done_of_tableEvent (k := k) seq payload hev
  refine ⟨hdone, hfree, doorsFollow_answered (doorsFollow_recompute htouch
    ((SameToDoors.hearRequest s p).trans (.of_noSlots hns))) p _ _ _,
    holdsOrFulfils_examine (State.slot_setSlot _ i _)
      (fun j hj => (State.slot_setSlot_ne _ i j _ hj).trans (State.slot_hearRequest s p j))
      (fun d => State.modPort_cluDoor_of s p _ d) hg hm (fun j => ?_) (fun q => ?_)⟩
  · rw [slot_answered, slot_recompute]
  · rw [kinds_answered, kinds_recompute (.inl rfl)]

theorem countdownFor_hearRequest (s : State) (p : Port) (sc : DoorSet) (w : Bool) :
    countdownFor (s.hearRequest p) sc w = countdownFor s sc w := by
  simp only [countdownFor, startsAtOnce, (SameToDoors.hearRequest s p).chan, (SameToDoors.hearRequest s p).guard]

/-- R3: the lowest free pool slot. -/
theorem lowestFree_eq {s : State} {i j : SlotNo} (hj : s.lowestFree = some j) (hp : isPool i = true)
    (hi : s.hold i = none) (hlow : ∀ k, isPool k = true → k < i → s.hold k ≠ none) : j = i := by
  have hjf : isPool j = true ∧ s.hold j = none := by
    have h1 := List.find?_some hj
    have h2 := List.mem_of_find?_eq_some hj
    rw [poolSlots, List.mem_filter] at h2
    exact ⟨h2.2, by simpa using h1⟩
  have hle : j ≤ i := by
    by_contra hlt
    obtain ⟨as, bs, hab, hno⟩ := List.find?_eq_some_iff_append.mp hj |>.2
    have hmem : i ∈ poolSlots := by simp [poolSlots, mem_slotNos, hp]
    have hsort : poolSlots.Pairwise (· < ·) := by decide
    rw [hab] at hmem hsort
    rcases List.mem_append.mp hmem with hm | hm
    · simpa [hi] using hno i hm
    · rcases List.mem_cons.mp hm with rfl | hm
      · exact hlt le_rfl
      · exact hlt (le_of_lt ((List.pairwise_cons.mp (List.pairwise_append.mp hsort).2.1).1 i hm))
  rcases lt_or_eq_of_le hle with hlt | he
  · exact absurd hjf.2 (hlow j hjf.1 hlt)
  · exact he

/-- R13, R25: the hold of a PLACE as it stands in its slot. -/
theorem startAtOnce_newHold (a : PlaceAsked) (x : Issuer) (i : SlotNo) (s : State) :
    s.startAtOnce (a.newHold x i s) =
      { handle := { epoch := s.epoch, slot := BitVec.ofNat 8 i.val, generation := (s.slot i).generation }
        issuer := x, kind := a.kind, scope := a.scope, level := a.level, lifetime := a.lifetime
        countdown := countdownFor s a.scope a.waiting, limit := a.limit, rwl := a.rwl, tag := a.tag } := by
  rw [startAtOnce_eq, PlaceAsked.newHold]
  dsimp only
  rw [waiting_beq]

/-- Settles O13. -/
theorem placeCreatesHold : Obligations.PlaceCreatesHold := by
  intro p seq q k i s h hm hq hn hk hp hi hlow hd
  obtain ⟨j, hj, hdo⟩ := doPlace_passed ((placeRefusal_hearRequest (issuerAt p s) q s p).trans hn) hk
  obtain rfl : j = i := lowestFree_eq hj hp ((State.hold_hearRequest s p i).trans hi)
    (fun l hl hlt => by rw [State.hold_hearRequest]; exact hlow l hl hlt)
  have he : (s.hearRequest p).epoch = s.epoch := State.modPort_epoch s p _
  have hnew : (s.hearRequest p).startAtOnce ((askedBy k q).newHold (issuerAt p s) j (s.hearRequest p)) =
      { handle := hd, issuer := issuerAt p s, kind := k, scope := q.scope, level := Fin.ofNat 8 q.level.toNat
        lifetime := lifetimeIn q.lifetime, countdown := countdownFor s q.scope (q.options.getLsbD 0)
        limit := limitIn q.openLimit, rwl := q.options.getLsbD 1, tag := q.tag } := by
    rw [startAtOnce_newHold, State.slot_hearRequest, he, countdownFor_hearRequest]
    rfl
  have hb : ((askedBy k q).newHold (issuerAt p s) j (s.hearRequest p)).handle = hd := by
    rw [PlaceAsked.newHold, State.slot_hearRequest, he]
  have hx : exec (.place p seq q) s = _ := arrive_answered h seq (by simp [placeBytes, halfBytes])
    ((checked_place hm hq).trans (congrArg answered hdo))
  refine ⟨_, hx, ?_⟩
  simp only [placeIn, State.fillSlot, hnew, hb, State.slot_hearRequest]
  exact putHold_answered .place seq _ (x := { s.slot j with lastReason := none, mark := none }) rfl (.inl hp)
    (fun _ => Iff.rfl)

end Sys2Proof.Machine
end

section
/-! PROOF. AMEND, RENEW, RETIRE and WITHDRAW that pass (R16 to R20, R25, R26, R41). -/

namespace Sys2Proof.Machine

open Claims

/-! ### AMEND (R16) -/

/-- R16, R25: the hold of an AMEND as it stands in its slot: one that waits and is given a scope may start at once. -/
theorem amended_started (q : AmendParams) (h : Hold) (s : State) :
    (if (amendedBy q).scope.isSome then s.startAtOnce (amended q h) else amended q h) =
      { amended q h with
        countdown := if q.marks.getLsbD 1 = true ∧ h.countdown = .waiting then countdownFor s q.scope true
          else h.countdown } := by
  have hcd : (amended q h).countdown = h.countdown := rfl
  cases hm : q.marks.getLsbD 1
  · have hs : (amendedBy q).scope.isSome = false := by rw [amendedBy, hm]; rfl
    rw [hs, if_neg Bool.false_ne_true, if_neg (fun k => Bool.false_ne_true k.1)]
    rfl
  · have hs : (amendedBy q).scope.isSome = true := by rw [amendedBy, hm]; rfl
    have hsc : (amended q h).scope = q.scope := by simp only [amended, hm, if_true]
    rw [hs, if_pos rfl, startAtOnce_eq, hcd, ← hsc]
    cases hc : h.countdown
    · rw [if_neg (fun k => by cases k.2)]
      rfl
    · rw [if_pos ⟨rfl, rfl⟩]
      rfl

theorem has_or (a b : DoorSet) (d : Door) : has (a ||| b) d = true ↔ has a d = true ∨ has b d = true := by
  simp [has]

/-- R16: an AMEND that passes. -/
theorem amend_passed (p : Port) (seq : Byte) (q : AmendParams) (i : SlotNo) (h : Hold) (s : State) (hr : Ready p s)
    (hm : s.mode = .run) (hq : q.marks &&& 0xE0#8 = 0#8) (hn : amendRefusal (issuerAt p s) q s = none)
    (hl : s.resolveHandle q.handle = .live i h) :
    ∃ t, exec (.amend p seq q) s = .next t ∧ Done p .amend seq [] s t ∧ t.free = s.free ∧
      DoorsFollow (fun d => has h.scope d = true ∨ has (amended q h).scope d = true) s t ∧
      HoldsOrFulfils i
        { amended q h with
          countdown := if q.marks.getLsbD 1 = true ∧ h.countdown = .waiting then countdownFor s q.scope true
            else h.countdown } (s.slot i) s t := by
  have hl1 : (s.hearRequest p).resolveHandle q.handle = .live i h := by cases p <;> exact hl
  have hdo := doAmend_passed ((amendRefusal_hearRequest (issuerAt p s) q s p).trans hn) hl1
  have hx : exec (.amend p seq q) s = _ := arrive_answered hr seq (by simp [amendBytes, handleBytes, halfBytes])
    ((checked_amend hm hq).trans (congrArg answered hdo))
  refine ⟨_, hx, ?_⟩
  simp only [amendIn, applied_amendedBy, amended_started, countdownFor_hearRequest, State.setHold,
    State.slot_hearRequest]
  exact putHold_answered .amend seq [] rfl (.inr rfl) (fun d => (has_or _ _ d).symm)

/-! ### RENEW (R17) -/

/-- A hold without its lifetime. -/
def Hold.timeless (h : Hold) : Hold := { h with lifetime := none }

/-- The part with a table of holds without their lifetimes. -/
def State.timeless (s : State) : State :=
  { s with slots := s.slots.map (fun x => { x with hold := x.hold.map Hold.timeless }) }

theorem holdsOver_timeless (s : State) (d : Door) : s.timeless.holdsOver d = (s.holdsOver d).map Hold.timeless := by
  have hf : s.timeless.slots.toList.filterMap Slot.hold = (s.slots.toList.filterMap Slot.hold).map Hold.timeless := by
    simp only [State.timeless, Vector.toList_map, List.filterMap_map, List.map_filterMap]
    rfl
  rw [State.holdsOver, hf, List.filter_map]
  rfl

theorem hold_timeless (s : State) (i : SlotNo) : s.timeless.hold i = (s.hold i).map Hold.timeless := by
  simp [State.timeless, State.hold, State.slot]

theorem released_timeless (s : State) (d : Door) : s.timeless.released d = s.released d := by
  have hc : s.timeless.cfg = s.cfg := rfl
  rw [State.released, State.released, hold_timeless, holdsOver_timeless, hc, Option.isSome_map, List.any_map]
  rfl

theorem topLevel_timeless (hs : List Hold) : topLevel (hs.map Hold.timeless) = topLevel hs := by
  rw [topLevel, List.foldl_map]
  rfl

theorem openTarget_timeless (n : Nat) (hs : List Hold) : openTarget n (hs.map Hold.timeless) = openTarget n hs := by
  rw [openTarget, List.foldl_map]
  rfl

/-- R33 to R39: no step of the demand resolution reads a lifetime. -/
theorem resolve_timeless (s : State) (d : Door) : s.timeless.resolve d = s.resolve d := by
  have hfind : ∀ (f : Hold → Bool) (l : List Hold), (∀ h, f h.timeless = f h) →
      (l.map Hold.timeless).find? f = (l.find? f).map Hold.timeless := fun f l hf => by
    rw [List.find?_map, show f ∘ Hold.timeless = f from funext hf]
  have hfilter : ∀ (f : Hold → Bool) (l : List Hold), (∀ h, f h.timeless = f h) →
      (l.map Hold.timeless).filter f = (l.filter f).map Hold.timeless := fun f l hf => by
    rw [List.filter_map, show f ∘ Hold.timeless = f from funext hf]
  have hc : s.timeless.cfg = s.cfg := rfl
  have hch : s.timeless.chan d = s.chan d := rfl
  unfold State.resolve
  simp only [holdsOver_timeless, released_timeless, hc, hch]
  rw [hfind _ _ (fun _ => rfl), hfilter _ _ (fun _ => rfl), topLevel_timeless, hfind _ _ (fun _ => rfl),
    hfilter _ _ (fun _ => rfl), topLevel_timeless, hfilter _ _ (fun _ => rfl), hfind _ _ (fun _ => rfl), List.head?_map,
    openTarget_timeless]
  generalize (s.holdsOver d).filter (fun h => h.kind == .isolate) = iso
  generalize (s.holdsOver d).filter (fun h => h.kind == .opens || h.kind == .closes) = oc
  generalize oc.filter (fun h => h.level == topLevel oc) = atTop
  cases (s.holdsOver d).find? (fun h => h.kind == .egress)
  · cases iso.find? (fun h => h.level == topLevel iso)
    · cases atTop.find? (fun h => h.kind == .closes)
      · cases atTop.head? <;> rfl
      · rfl
    · rfl
  · rfl

/-- R17: a new lifetime changes no record. -/
theorem resolve_setHold_lifetime (s : State) {i : SlotNo} {h : Hold} (hi : s.hold i = some h) (l : Option Nat)
    (d : Door) : (s.setHold i { h with lifetime := l }).resolve d = s.resolve d := by
  have hsl : (s.setHold i { h with lifetime := l }).timeless.slots = s.timeless.slots := by
    refine Vector.ext (fun j hj => ?_)
    have hx : ∀ u : State, u.timeless.slots[j] = { u.slot ⟨j, hj⟩ with hold := (u.hold ⟨j, hj⟩).map Hold.timeless } :=
      fun u => by simp [State.timeless, State.slot, State.hold]
    rw [hx, hx, State.slot_setHold]
    split
    · rename_i he
      rw [he, State.hold_setHold, hi]
      rfl
    · rename_i hne
      rw [State.hold_setHold_ne _ _ _ _ hne]
  have hsame : SameToDoors s.timeless (s.setHold i { h with lifetime := l }).timeless :=
    ⟨rfl, rfl, rfl, rfl, rfl, rfl, rfl⟩
  rw [← resolve_timeless, ← resolve_timeless s, hsame.resolve hsl]

/-- R5: a handle that resolves LIVE names the hold of a slot. -/
theorem hold_of_live {s : State} {hd : Handle} {i : SlotNo} {h : Hold} (hl : s.resolveHandle hd = .live i h) :
    s.hold i = some h := by
  unfold State.resolveHandle at hl
  split at hl
  · cases hl
  split at hl
  · unfold Slot.resolve at hl
    split at hl
    · rename_i a ha
      split at hl
      · cases hl
        exact ha
      · cases hl
    · split at hl
      · split at hl <;> cases hl
      · cases hl
  · cases hl

/-- Hearing a request and answering it raises no notice. -/
theorem noNotice_answered {s u : State} {p : Port} (hu : ∀ q, u.port q = (s.hearRequest p).port q) (k seq : Byte)
    (r : Reply) : NoNotice s (u.formAnswer p k seq r false).settle := by
  have hanswer : ∀ q, SameNotices q u (u.formAnswer p k seq r false).settle := fun q => by
    cases p <;> cases q <;> exact ⟨rfl, rfl, rfl, rfl⟩
  have hhear : ∀ q, SameNotices q s (s.hearRequest p) := fun q => by
    cases p <;> cases q <;> exact ⟨rfl, rfl, rfl, rfl⟩
  have hq : ∀ q, SameNotices q s (u.formAnswer p k seq r false).settle := fun q => by
    have h := hanswer q
    rw [SameNotices, hu q] at h
    obtain ⟨h1, h2, h3, h4⟩ := h
    obtain ⟨g1, g2, g3, g4⟩ := hhear q
    exact ⟨h1.trans g1, h2.trans g2, h3.trans g3, h4.trans g4⟩
  exact ⟨hq .t, hq .s⟩

/-- R17: a RENEW that passes. -/
theorem renew_passed (p : Port) (seq : Byte) (hd : Handle) (l : Half) (i : SlotNo) (h : Hold) (s : State)
    (hr : Ready p s) (hm : s.mode = .run) (hn : renewRefusal (issuerAt p s) hd l s = none)
    (hl : s.resolveHandle hd = .live i h) :
    ∃ t, exec (.renew p seq hd l) s = .next t ∧ Done p .renew seq [] s t ∧ t.free = s.free ∧
      t.slot i = { s.slot i with hold := some { h with lifetime := lifetimeIn l } } ∧
      (∀ j, j ≠ i → t.slot j = s.slot j) ∧ DoorsFollow (fun d => has h.scope d = true) s t ∧
      ((∀ d : Door, has h.scope d = true → s.fitted d = true → s.demand d = s.resolve d) →
        SameDoors s t ∧ t.sent = s.sent ∧ NoNotice s t) := by
  have hl1 : (s.hearRequest p).resolveHandle hd = .live i h := by cases p <;> exact hl
  have hdo := doRenew_passed ((renewRefusal_hearRequest (issuerAt p s) hd l s p).trans hn) hl1
  have hx : exec (.renew p seq hd l) s = _ := arrive_answered hr seq (by simp [renewBytes, handleBytes, halfBytes])
    ((checked_renew hm hd l).trans (congrArg answered hdo))
  have hhear := SameToDoors.hearRequest s p
  have hput : SameToDoors (s.hearRequest p) ((s.hearRequest p).setHold i { h with lifetime := lifetimeIn l }) :=
    ⟨rfl, rfl, rfl, rfl, rfl, rfl, rfl⟩
  have hev := tableEvent_of_offTable (State.offTable_of_bare
    (bare_recompute h.scope ((s.hearRequest p).setHold i { h with lifetime := lifetimeIn l })))
  obtain ⟨hdone, hfree⟩ := done_of_tableEvent (k := .renew) seq [] (s := s) (p := p) hev
  refine ⟨_, hx, hdone, hfree, ?_, fun j hj => ?_,
    doorsFollow_answered (doorsFollow_recompute (fun _ => Iff.rfl) (hhear.trans hput)) p _ _ _, fun hfresh => ?_⟩
  · rw [slot_answered, slot_recompute, State.slot_setHold, if_pos rfl, State.slot_hearRequest]
  · rw [slot_answered, slot_recompute, State.slot_setHold, if_neg hj, State.slot_hearRequest]
  · have hstill : recompute h.scope ((s.hearRequest p).setHold i { h with lifetime := lifetimeIn l }) =
        (s.hearRequest p).setHold i { h with lifetime := lifetimeIn l } := by
      refine recompute_of_fresh (fun d hd hf => ?_)
      rw [resolve_setHold_lifetime _ ((State.hold_hearRequest s p i).trans (hold_of_live hl)),
        hhear.resolve (State.slots_hearRequest s p), (hhear.trans hput).demand]
      exact hfresh d hd (((hhear.trans hput).fitted d).symm.trans hf)
    dsimp only
    rw [hstill]
    have hall := (hhear.trans hput).trans (.answered _ p RequestKind.renew.code seq (.ok []))
    exact ⟨⟨hall.chans, hall.guards, hall.demands⟩, hall.sent,
      noNotice_answered (fun _ => State.port_setSlot _ _ _ _) _ _ _⟩

/-- Settles O14, by what becomes of the slot and of the records where the request passes. -/
theorem amendAndRenewChangeTheirFields : Obligations.AmendAndRenewChangeTheirFields :=
  ⟨fun p seq q i h s hr hm _ hq hn hl => amend_passed p seq q i h s hr hm hq hn hl, renew_passed⟩

/-! ### RETIRE and WITHDRAW (R18, R19, R20) -/

/-- A request that retires the selected holds. -/
theorem retire_answered {sel : SlotNo → Hold → Prop} {is : List SlotNo} {p : Port} {s : State} {k : RequestKind}
    {r : Reason} {own : Bool} (seq : Byte) (payload : List Byte) (hn : is.Nodup)
    (hsel : ∀ i h, s.hold i = some h → (i ∈ is ↔ sel i h)) :
    let t := ((tableRetire is r own (s.hearRequest p)).formAnswer p k.code seq (.ok payload) false).settle
    Done p k seq payload s t ∧ t.free = s.free ∧ Retires sel r own s t ∧ DoorsFollow (inScopes sel s) s t := by
  have hsel1 : ∀ i h, (s.hearRequest p).hold i = some h → (i ∈ is ↔ sel i h) := fun i h hi =>
    hsel i h ((State.hold_hearRequest s p i).symm.trans hi)
  obtain ⟨hdone, hfree⟩ := done_of_tableEvent (k := k) seq payload (s := s) (p := p)
    (tableEvent_of_offTable (offTable_tableRetire is r own (s.hearRequest p)))
  refine ⟨hdone, hfree, fun i => ?_, doorsFollow_answered (doorsFollow_tableRetire r own (.hearRequest s p)
    (State.hold_hearRequest s p) hsel1) p _ _ _⟩
  rw [slot_answered, ← State.hold_hearRequest s p, ← State.slot_hearRequest s p]
  exact retires_tableRetire r own hn hsel1 i

/-- Where nothing is reported at the table, nothing is reported at the request's end. -/
theorem noRetiredNotice_answered {is : List SlotNo} {p : Port} {s : State} {k seq : Byte} {r : Reason} {own : Bool}
    {x : Reply} (h : ∀ i ∈ is, (isPool i && !own) = false) :
    NoRetiredNotice s ((tableRetire is r own (s.hearRequest p)).formAnswer p k seq x false).settle := by
  intro q
  rw [kinds_answered, noRetiredNotice_tableRetire r h]
  cases p <;> cases q <;> rfl

/-- R18, R19: a RETIRE that passes. -/
theorem retire_passed (p : Port) (seq : Byte) (hd : Handle) (i : SlotNo) (h : Hold) (s : State) (hr : Ready p s)
    (hm : s.mode = .run) (hn : retireRefusal (issuerAt p s) hd s = none) (hl : s.resolveHandle hd = .live i h) :
    ∃ t, exec (.retire p seq hd) s = .next t ∧ Done p .retire seq [] s t ∧ t.free = s.free ∧
      Retires (fun j _ => j = i) .requested (decide (h.issuer = issuerAt p s)) s t ∧
      (if h.issuer ≠ issuerAt p s ∧ isPool i = true then RetiredNotices (fun j _ => j = i) s t
        else NoRetiredNotice s t) ∧
      DoorsFollow (fun d => has h.scope d = true) s t := by
  have hi := hold_of_live hl
  have hl1 : (s.hearRequest p).resolveHandle hd = .live i h := by cases p <;> exact hl
  have hdo := doRetire_passed (issuerAt_cases p s) ((retireRefusal_hearRequest (issuerAt p s) hd s p).trans hn) hl1
  have hx : exec (.retire p seq hd) s = _ := arrive_answered hr seq (by simp [handleBytes])
    ((checked_retire hm hd).trans (congrArg answered hdo))
  have hsel : ∀ j (h' : Hold), s.hold j = some h' → (j ∈ [i] ↔ j = i) := fun j _ _ => List.mem_singleton
  have hscope : inScopes (fun j _ => j = i) s = fun d => has h.scope d = true := by
    funext d
    simp only [inScopes, eq_iff_iff]
    constructor
    · rintro ⟨j, h', hj, rfl, hd⟩
      cases hi.symm.trans hj
      exact hd
    · exact fun hd => ⟨i, h, hi, rfl, hd⟩
  obtain ⟨hdone, hfree, hret, hfol⟩ := retire_answered (p := p) (k := .retire) (r := .requested)
    (own := h.issuer == issuerAt p s) seq [] (List.nodup_singleton i) hsel
  refine ⟨_, hx, hdone, hfree, hret, ?_, hscope ▸ hfol⟩
  split
  · rename_i hk
    have hown : (h.issuer == issuerAt p s) = false := beq_eq_false_iff_ne.mpr hk.1
    intro j h' hj he hp
    dsimp only
    rw [kinds_answered, hown]
    exact retiredNotices_tableRetire .requested (fun j h' _ he => List.mem_singleton.mpr he) j h'
      ((State.hold_hearRequest s p j).trans hj) he hp
  · rename_i hk
    refine noRetiredNotice_answered (fun j hj => ?_)
    rw [List.mem_singleton.mp hj]
    cases hp : isPool i
    · rfl
    · have : h.issuer = issuerAt p s := by_contra fun hne => hk ⟨hne, hp⟩
      simp [this]

theorem kindOfByte_eq_some (b : Byte) (c : HoldKind) : kindOfByte b = some c ↔ kindCode c = b := by
  cases c <;> revert b <;> decide +kernel

theorem issuerOfByte_eq_some (b : Byte) (x : Issuer) : issuerOfByte b = some x ↔ issuerCode x = b := by
  cases x <;> revert b <;> decide +kernel

/-- R182: what a filter byte lets pass: every value where it is FFh, else that of its code. -/
theorem filterOf_spec {α : Type} {dec : Byte → Option α} {code : α → Byte} (hdec : ∀ b c, dec b = some c ↔ code c = b)
    {b : Byte} {o : Option α} (h : filterOf dec b = some o) (c : α) :
    (o = none ∨ o = some c) ↔ (b = 0xFF#8 ∨ code c = b) := by
  unfold filterOf at h
  split at h
  · rename_i hb
    cases h
    exact ⟨fun _ => .inl hb, fun _ => .inl rfl⟩
  · rename_i hb
    rw [Option.map_eq_some_iff] at h
    obtain ⟨a, ha, rfl⟩ := h
    have hc : some a = some c ↔ code c = b := by rw [← hdec, ha]
    rw [hc]
    exact or_congr (iff_of_false nofun hb) Iff.rfl

/-- R20: the test by which a WITHDRAW selects. -/
theorem withdrawn_test (o : Option HoldKind) (x : Issuer) (h : Hold) :
    (h.issuer == x && (match o with
      | none => true
      | some k => h.kind == k)) = true ↔ h.issuer = x ∧ (o = none ∨ o = some h.kind) := by
  cases o <;> simp [eq_comm (a := h.kind)]

/-- R18, R20: a WITHDRAW of a kind in range. -/
theorem withdraw_passed (p : Port) (seq k : Byte) (s : State) (hr : Ready p s) (hm : s.mode = .run)
    (hk : k = 0xFF#8 ∨ k.toNat < 5) :
    let sel : SlotNo → Hold → Prop := fun _ h => h.issuer = issuerAt p s ∧ (k = 0xFF#8 ∨ kindCode h.kind = k)
    ∃ t, exec (.withdraw p seq k) s = .next t ∧
      Done p .withdraw seq [BitVec.ofNat 8 (slotNos.countP (fun i => (s.hold i).any (fun h =>
        h.issuer == issuerAt p s && (k == 0xFF#8 || kindCode h.kind == k))))] s t ∧
      t.free = s.free ∧ Retires sel .requested true s t ∧ NoRetiredNotice s t ∧
      DoorsFollow (inScopes sel s) s t := by
  intro sel
  obtain ⟨o, ho⟩ : ∃ o, filterOf kindOfByte k = some o := by
    unfold filterOf
    split
    · exact ⟨none, rfl⟩
    · rename_i hne
      cases hd : kindOfByte k with
      | none => exact absurd ((kindOfByte_eq_none k).mp hd) (by have := hk.resolve_left hne; omega)
      | some c => exact ⟨some c, rfl⟩
  have htest : ∀ i h, (h.issuer == issuerAt p s && (match o with
      | none => true
      | some k => h.kind == k)) = true ↔ sel i h := fun i h => by
    rw [withdrawn_test, filterOf_spec kindOfByte_eq_some ho]
  have hlen : (withdrawn (s.hearRequest p) (issuerAt p s) o).length = slotNos.countP (fun i =>
      (s.hold i).any (fun h => h.issuer == issuerAt p s && (k == 0xFF#8 || kindCode h.kind == k))) := by
    rw [withdrawn, State.slotsWhere, ← List.countP_eq_length_filter]
    refine List.countP_congr (fun i _ => ?_)
    rw [State.hold_hearRequest]
    cases s.hold i with
    | none => simp
    | some h =>
      exact (htest i h).trans (by simp [sel])
  have hdo : doWithdraw (issuerAt p s) k (s.hearRequest p) =
      (tableRetire (withdrawn (s.hearRequest p) (issuerAt p s) o) .requested true (s.hearRequest p),
        .ok [BitVec.ofNat 8 (withdrawn (s.hearRequest p) (issuerAt p s) o).length]) := by
    rw [doWithdraw, ho]
  have hx : exec (.withdraw p seq k) s = _ := arrive_answered hr seq (by simp)
    ((checked_withdraw hm k).trans (congrArg answered hdo))
  obtain ⟨hdone, hfree, hret, hfol⟩ := retire_answered (sel := sel)
    (is := withdrawn (s.hearRequest p) (issuerAt p s) o) (p := p) (k := .withdraw) (r := .requested) (own := true) seq
    [BitVec.ofNat 8 (withdrawn (s.hearRequest p) (issuerAt p s) o).length]
    (State.nodup_slotsWhere _ _) (fun i h hi => mem_slotsWhere_of htest i h ((State.hold_hearRequest s p i).trans hi))
  refine ⟨_, hx, ?_, hfree, hret, noRetiredNotice_answered (fun i _ => by simp), hfol⟩
  rw [← hlen]
  exact hdone

/-- Settles O15: both requests end in tableRetire. -/
theorem retireAndWithdrawEndHolds : Obligations.RetireAndWithdrawEndHolds := ⟨retire_passed, withdraw_passed⟩

end Sys2Proof.Machine
end

section
/-! PROOF. LOOKUP and SURVEY, COLLECT_NOTICES and NOTICE_MASK (R5, R27 to R29, R157, R158, R173). -/

namespace Sys2Proof.Machine

open Claims

/-! ### LOOKUP (R5, R28) -/

/-- R8: what is answered for a lifetime may be answered. -/
theorem remainingOk_remaining (h : Hold) (n : Nat) : RemainingOk h (remaining h n) := by
  unfold RemainingOk remaining
  cases h.lifetime with
  | none => rfl
  | some l =>
    dsimp only
    split
    · rfl
    · exact ⟨_, rfl, Nat.le_add_right 1 _, fun hl => by
        have := Nat.mod_lt (Config.freeValue n) (show l > 0 by omega)
        omega⟩

/-- Table 11-4: the bytes of a hold are a record of it. -/
theorem isRecord_holdBytes (h : Hold) (n : Nat) : IsRecord h (holdBytes h n) := ⟨_, remainingOk_remaining h n, rfl⟩

/-- R5: the payload of a LOOKUP says how the handle resolves. -/
theorem lookupPayload_lookupBytes (s : State) (hd : Handle) (n : Nat) :
    LookupPayload s hd (lookupBytes (s.resolveHandle hd) n) := by
  unfold LookupPayload State.resolveHandle
  by_cases he : hd.epoch = s.epoch
  · by_cases hs : hd.slot.toNat < 64
    · rw [dif_pos ⟨he, hs⟩, if_neg (not_not_intro he), dif_pos hs]
      unfold Slot.resolve
      dsimp only
      cases (s.slot ⟨hd.slot.toNat, hs⟩).hold with
      | some h =>
        dsimp only
        split
        · exact ⟨_, isRecord_holdBytes h n, rfl⟩
        · rfl
      | none =>
        dsimp only
        cases (s.slot ⟨hd.slot.toNat, hs⟩).lastReason with
        | some r => dsimp only; split <;> rfl
        | none => rfl
    · rw [dif_neg (fun k => hs k.2), if_neg (not_not_intro he), dif_neg hs]
      rfl
  · rw [dif_neg (fun k => he k.1), if_pos he]
    rfl

/-- R5, R28: LOOKUP in either mode. -/
theorem lookup_answers (p : Port) (seq : Byte) (hd : Handle) (s : State) (hr : Ready p s) :
    ∃ b t, exec (.lookup p seq hd) s = .next t ∧ OnlyAnswers p RequestKind.lookup.code seq .ok b s t ∧
      LookupPayload s hd b := by
  have hx : exec (.lookup p seq hd) s = _ := arrive_answered hr (k := .lookup) seq (b := handleBytes hd)
    (by simp [handleBytes]) (checked_hearRequest (by rintro x (rfl | rfl | rfl) <;> rfl) rfl rfl)
  refine ⟨_, _, hx, onlyAnswers_of_heard p _ seq (.ok _) s _, ?_⟩
  have hres : (s.hearRequest p).resolveHandle hd = s.resolveHandle hd := by cases p <;> rfl
  have hb : handleAt (handleBytes hd) 0 = hd := rfl
  rw [hb, hres]
  exact lookupPayload_lookupBytes s hd _

/-! ### SURVEY (R29) -/

/-- A filter byte is out of range exactly where it is neither FFh nor a code. -/
theorem filterOf_eq_none {α : Type} {dec : Byte → Option α} {b : Byte} :
    filterOf dec b = none ↔ b ≠ 0xFF#8 ∧ dec b = none := by
  unfold filterOf
  split
  · rename_i h
    exact iff_of_false nofun (fun k => k.1 h)
  · rename_i h
    simp [h]

theorem issuerOfByte_eq_none (b : Byte) : issuerOfByte b = none ↔ 7 ≤ b.toNat := by
  revert b; decide +kernel

/-- The occupied slots of a list with their holds, those that pass a test. -/
theorem map_fst_filter_holds (s : State) (f : SlotNo → Hold → Bool) (l : List SlotNo) :
    ((l.filterMap (fun i => (s.hold i).map (fun h => (i, h)))).filter (fun e => f e.1 e.2)).map Prod.fst =
      l.filter (fun i => (s.hold i).any (f i)) := by
  induction l with
  | nil => rfl
  | cons i l ih =>
    cases h : s.hold i with
    | none => simpa [h] using ih
    | some a => cases hf : f i a <;> simpa [h, hf] using ih

/-- R29: the slots that a survey finds. -/
theorem map_fst_surveyed_eq (s : State) (n : Nat) (x : Option Issuer) (k : Option HoldKind) :
    (surveyed s n x k).map Prod.fst = slotNos.filter (fun i => (s.hold i).any (fun h =>
      decide (n ≤ i.val) && x.all (fun y => h.issuer == y) && k.all (fun c => h.kind == c))) := by
  rw [← map_fst_filter_holds]
  cases x <;> cases k <;> rfl

/-- R29: the holds that a survey finds lie in the matching slots, in their order. -/
theorem map_fst_surveyed {s : State} {start issuer kind : Byte} {x : Option Issuer} {k : Option HoldKind}
    (hx : filterOf issuerOfByte issuer = some x) (hk : filterOf kindOfByte kind = some k) :
    (surveyed s start.toNat x k).map Prod.fst = matching s start issuer kind := by
  rw [map_fst_surveyed_eq]
  refine List.filter_congr (fun i _ => ?_)
  cases s.hold i with
  | none => rfl
  | some h =>
    have hall : ∀ {α : Type} [DecidableEq α] (o : Option α) (a : α),
        o.all (fun y => a == y) = true ↔ o = none ∨ o = some a := fun o a => by
      cases o <;> simp [eq_comm (a := a)]
    rw [Bool.eq_iff_iff]
    simp only [Option.any_some, Bool.and_eq_true, Bool.or_eq_true, beq_iff_eq, decide_eq_true_eq, hall,
      filterOf_spec issuerOfByte_eq_some hx, filterOf_spec kindOfByte_eq_some hk]

theorem hold_of_mem_surveyed {s : State} {n : Nat} {x : Option Issuer} {k : Option HoldKind} {e : SlotNo × Hold}
    (h : e ∈ surveyed s n x k) : s.hold e.1 = some e.2 := by
  obtain ⟨i, _, hi⟩ := List.mem_filterMap.mp (List.mem_of_mem_filter h)
  obtain ⟨a, ha, rfl⟩ := Option.map_eq_some_iff.mp hi
  exact ha

/-- A list and what is made of its numbered elements. -/
theorem forall₂_map_zipIdx {α β : Type} {R : α → β → Prop} {f : α × Nat → β} {l : List α}
    (h : ∀ a ∈ l, ∀ n, R a (f (a, n))) (n : Nat) : List.Forall₂ R l ((l.zipIdx n).map f) := by
  induction l generalizing n with
  | nil => exact .nil
  | cons a l ih =>
    exact .cons (h a List.mem_cons_self n) (ih (fun b hb => h b (List.mem_cons_of_mem a hb)) (n + 1))

/-- R29: a survey in range. -/
theorem doSurvey_of_inRange {s : State} {start issuer kind : Byte} {x : Option Issuer} {k : Option HoldKind}
    (hx : filterOf issuerOfByte issuer = some x) (hk : filterOf kindOfByte kind = some k) (hs : start.toNat < 64) :
    doSurvey start issuer kind s =
      ({ s with free := s.free + 8 },
        .ok ([BitVec.ofNat 8 ((surveyed s start.toNat x k).take 8).length] ++
          ((((surveyed s start.toNat x k).take 8).zipIdx.map (fun e => holdBytes e.1.2 (s.free + e.2))).flatten) ++
          [BitVec.ofNat 8 (nextSlot (surveyed s start.toNat x k))])) := by
  rw [doSurvey, hx, hk]
  dsimp only
  rw [if_neg (by omega)]

/-- R29: a survey out of range. -/
theorem doSurvey_refused {s : State} {start issuer kind : Byte}
    (h : 64 ≤ start.toNat ∨ (issuer ≠ 0xFF#8 ∧ 7 ≤ issuer.toNat) ∨ (kind ≠ 0xFF#8 ∧ 5 ≤ kind.toNat)) :
    doSurvey start issuer kind s = (s, .refuse .badRequest) := by
  rw [← issuerOfByte_eq_none, ← kindOfByte_eq_none, ← filterOf_eq_none, ← filterOf_eq_none] at h
  unfold doSurvey
  cases hx : filterOf issuerOfByte issuer with
  | none => rfl
  | some x =>
    cases hk : filterOf kindOfByte kind with
    | none => rfl
    | some k =>
      rw [hx, hk] at h
      exact if_pos (by rcases h with h | h | h; exacts [h, (nomatch h), (nomatch h)])

theorem checked_survey {p : Port} {s : State} (start issuer kind : Byte) :
    checked p RequestKind.survey.code [start, issuer, kind] (s.hearRequest p) =
      answered (doSurvey start issuer kind (s.hearRequest p)) :=
  checked_hearRequest (by rintro x (rfl | rfl | rfl) <;> rfl) rfl rfl

theorem survey_answers (p : Port) (seq start issuer kind : Byte) (s : State) (hr : Ready p s)
    (hin : ¬ (64 ≤ start.toNat ∨ (issuer ≠ 0xFF#8 ∧ 7 ≤ issuer.toNat) ∨ (kind ≠ 0xFF#8 ∧ 5 ≤ kind.toNat))) :
    ∃ recs t, exec (.survey p seq start issuer kind) s = .next t ∧
      OnlyAnswers p RequestKind.survey.code seq .ok
        ([BitVec.ofNat 8 recs.length] ++ recs.flatten ++
         [BitVec.ofNat 8 (match (matching s start issuer kind)[7]? with
           | some i => i.val + 1
           | none => 64)]) s t ∧
      List.Forall₂ (fun i b => ∃ h, s.hold i = some h ∧ IsRecord h b) ((matching s start issuer kind).take 8) recs := by
  rw [← issuerOfByte_eq_none, ← kindOfByte_eq_none, ← filterOf_eq_none, ← filterOf_eq_none, not_or, not_or] at hin
  obtain ⟨hs, hx, hk⟩ := hin
  obtain ⟨x, hx⟩ := Option.ne_none_iff_exists'.mp hx
  obtain ⟨k, hk⟩ := Option.ne_none_iff_exists'.mp hk
  have hsv : surveyed (s.hearRequest p) start.toNat x k = surveyed s start.toNat x k := by cases p <;> rfl
  have hdo := doSurvey_of_inRange (s := s.hearRequest p) (start := start) hx hk (by omega)
  have he : exec (.survey p seq start issuer kind) s = _ := arrive_answered hr (k := .survey) seq (by simp)
    ((checked_survey start issuer kind).trans (congrArg answered hdo))
  rw [hsv] at he
  have hmatch := map_fst_surveyed (s := s) (start := start) hx hk
  have hhold : ∀ e ∈ surveyed s start.toNat x k, s.hold e.1 = some e.2 := fun e => hold_of_mem_surveyed
  generalize surveyed s start.toNat x k = found at he hmatch hhold
  have hnext : nextSlot found = match (matching s start issuer kind)[7]? with
      | some i => i.val + 1
      | none => 64 := by
    rw [← hmatch, List.getElem?_map, nextSlot]
    cases found[7]? <;> rfl
  have hans := onlyAnswers_of_heard p RequestKind.survey.code seq
    (.ok ([BitVec.ofNat 8 (found.take 8).length] ++
      ((found.take 8).zipIdx.map (fun e => holdBytes e.1.2 ((s.hearRequest p).free + e.2))).flatten ++
      [BitVec.ofNat 8 (nextSlot found)])) s ((s.hearRequest p).free + 8)
  refine ⟨(found.take 8).zipIdx.map (fun e => holdBytes e.1.2 ((s.hearRequest p).free + e.2)), _, he, ?_, ?_⟩
  · rw [List.length_map, List.length_zipIdx, ← hnext]
    exact hans
  · rw [← hmatch, ← List.map_take, List.forall₂_map_left_iff]
    exact forall₂_map_zipIdx (fun e h n => ⟨e.2, hhold e (List.mem_of_mem_take h), isRecord_holdBytes e.2 _⟩) 0

/-- Settles O16: LOOKUP by how the handle resolves, SURVEY by whether its bytes are in range. -/
theorem lookupAndSurveyReadTheTable : Obligations.LookupAndSurveyReadTheTable := by
  refine ⟨lookup_answers, fun p seq start issuer kind s hr => ?_⟩
  split
  · rename_i h
    exact justAnswers_of_refused (r := .refuse .badRequest) hr rfl (by simp)
      ((checked_survey start issuer kind).trans (congrArg answered (doSurvey_refused h)))
  · rename_i h
    exact survey_answers p seq start issuer kind s hr h

/-! ### COLLECT_NOTICES and NOTICE_MASK (R27, R157, R158, R173) -/

/-- Clearing marks writes the table alone. -/
theorem clearMarks_eq (is : List SlotNo) (s : State) : ∃ sl, s.clearMarks is = { s with slots := sl } := by
  induction is generalizing s with
  | nil => exact ⟨s.slots, rfl⟩
  | cons i is ih => exact ih (s.setSlot i { s.slot i with mark := none })

/-- R27: the listed slots lose their marks, and nothing else of a slot changes. -/
theorem slot_clearMarks (is : List SlotNo) (s : State) (j : SlotNo) :
    (s.clearMarks is).slot j = if j ∈ is then { s.slot j with mark := none } else s.slot j := by
  induction is generalizing s with
  | nil => simp [State.clearMarks]
  | cons i is ih =>
    rw [State.clearMarks, List.foldl_cons, ← State.clearMarks, ih]
    by_cases h : j = i
    · subst h
      simp
    · simp [h, State.slot_setSlot_any]

/-- R27: the slots that a collection lists. -/
theorem markedSlots_eq (s : State) (p : Port) :
    markedSlots s p = slotNos.filter (fun i => isPool i && (s.slot i).mark.any (fun x =>
      match p with
      | .t => x == .trn
      | .s => x == .atd || x == .mnt)) := by
  rw [markedSlots, poolSlots, List.filter_filter]
  refine List.filter_congr (fun i _ => ?_)
  rw [Bool.and_comm]
  cases p <;> cases (s.slot i).mark <;> rfl

theorem markedBytes_eq (s : State) (i : SlotNo) :
    markedBytes s i = [s.epoch, BitVec.ofNat 8 i.val, (s.slot i).generation - 1#8,
      (s.slot i).lastReason.elim 0#8 reasonCode] := by
  rw [markedBytes]
  cases (s.slot i).lastReason <;> rfl

/-- R173: the attention line after an answer is that of the port's kinds and mask. -/
theorem attention_answered (u : State) (p : Port) (k seq : Byte) (r : Reply) :
    ((u.formAnswer p k seq r false).settle.port p).attention = (u.port p).wantsAttention := by
  cases p <;> rfl

/-- R173: attention is wanted while a kind outside the mask is pending. -/
theorem wantsAttention_eq (x : PortState) : x.wantsAttention =
    decide (∃ n : Fin 8, x.kinds.getLsbD n.val = true ∧ x.mask.getLsbD n.val = false) := by
  rw [PortState.wantsAttention, Bool.eq_iff_iff, bne_iff_ne, decide_eq_true_eq, ← not_iff_not, not_not, not_exists]
  constructor
  · intro h n ⟨hk, hm⟩
    have hn : (x.kinds &&& ~~~x.mask).getLsbD n.val = false := by rw [h, BitVec.getLsbD_zero]
    rw [BitVec.getLsbD_and, BitVec.getLsbD_not, hk, hm, decide_eq_true n.isLt] at hn
    cases hn
  · intro h
    refine BitVec.eq_of_getLsbD_eq (fun n hn => ?_)
    have := h ⟨n, hn⟩
    simp_all

/-- Everything but port p and the slots stands. -/
structure OnlyPort (p : Port) (s t : State) : Prop where
  control : SameControl s t
  doors : SameDoors s t
  lines : SameLines s t
  clu : t.clu = s.clu
  sent : t.sent = s.sent
  free : t.free = s.free
  link : SameLink (otherPort p) s t
  notices : SameNotices (otherPort p) s t

/-- The part once a request has been heard at port p and has written the slots and the notices and mask of its
port. -/
def State.written (s : State) (p : Port) (sl : Vector Slot 64) (f : PortState → PortState) : State :=
  ({ s.hearRequest p with slots := sl } : State).modPort p f

theorem State.port_written (s : State) (p : Port) (sl : Vector Slot 64) (f : PortState → PortState) :
    (s.written p sl f).port p = f ((s.port p).heard (s.cfg.supTime p)) := by
  cases p <;> rfl

/-- The part with other slots and another port p, its outputs settled. -/
theorem OnlyPort.settle_setPort (s : State) (p : Port) (sl : Vector Slot 64) (x : PortState) :
    OnlyPort p s (({ s with slots := sl } : State).setPort p x).settle := by
  cases p <;> exact ⟨⟨rfl, rfl, rfl, rfl, rfl, rfl, rfl, rfl, rfl, rfl, rfl, rfl, .inl rfl⟩, ⟨rfl, rfl, rfl⟩,
    ⟨rfl, rfl, rfl⟩, rfl, rfl, rfl, ⟨rfl, rfl, rfl, rfl, rfl, rfl, rfl, rfl, rfl⟩, ⟨rfl, rfl, rfl, rfl⟩⟩

theorem State.setPort_modPort (s : State) (p : Port) (x : PortState) (f : PortState → PortState) :
    (s.setPort p x).modPort p f = s.setPort p (f x) := by
  cases p <;> rfl

/-- Its answer changes nothing outside port p and the slots. -/
theorem OnlyPort.answered (s : State) (p : Port) (sl : Vector Slot 64) (f : PortState → PortState) (k seq : Byte)
    (r : Reply) : OnlyPort p s ((s.written p sl f).formAnswer p k seq r false).settle := by
  have hw : s.written p sl f =
      ({ s with slots := sl } : State).setPort p (f ((s.port p).heard (s.cfg.supTime p))) := by
    rw [State.written, ← State.setPort_modPort]
    cases p <;> rfl
  rw [State.formAnswer, hw, State.setPort_modPort]
  exact .settle_setPort s p sl _

/-- What an answer changes of its port. -/
theorem port_answered (u : State) (p : Port) (k seq : Byte) (r : Reply) :
    ∃ a b, (u.formAnswer p k seq r false).settle.port p =
      { u.port p with overrun := a, slot := b, attention := (u.port p).wantsAttention } := by
  cases p <;> exact ⟨_, _, rfl⟩

theorem State.heardAt_written {p : Port} {s : State} {sl : Vector Slot 64} {f : PortState → PortState}
    (h : ∀ x, ∃ a b c d m, f x = { x with kinds := a, standing := b, fault := c, egress := d, mask := m }) :
    HeardAt p s (s.written p sl f) := by
  obtain ⟨a, b, c, d, m, hf⟩ := h ((s.port p).heard (s.cfg.supTime p))
  have hp := s.port_written p sl f
  rw [hf] at hp
  constructor <;> rw [hp] <;> rfl

/-- R157: a port whose notices have been collected. -/
def PortState.collected (x : PortState) : PortState :=
  { x with kinds := 0#8, standing := 0#8, fault := 0#8, egress := 0#8 }

/-- R158: a port with a new mask. -/
def PortState.masked (m : KindSet) (x : PortState) : PortState := { x with mask := m }

/-- R27, R157: COLLECT_NOTICES. -/
theorem collectNotices_answers (p : Port) (seq : Byte) (s : State) (hr : Ready p s) :
    let mine : List SlotNo := slotNos.filter (fun i => isPool i && (s.slot i).mark.any (fun x =>
      match p with
      | .t => x == .trn
      | .s => x == .atd || x == .mnt))
    ∃ t, exec (.collectNotices p seq) s = .next t ∧ SameControl s t ∧ SameDoors s t ∧ SameLines s t ∧
      t.clu = s.clu ∧ t.sent = s.sent ∧ t.free = s.free ∧ (t.port p).mask = (s.port p).mask ∧
      SameLink (otherPort p) s t ∧ SameNotices (otherPort p) s t ∧ Supervised p s t ∧
      Answers p RequestKind.collectNotices.code seq .ok
        ([(s.port p).kinds, (s.port p).standing, (s.port p).fault, (s.port p).egress,
          BitVec.ofNat 8 mine.length] ++
         (mine.map (fun i => [s.epoch, BitVec.ofNat 8 i.val, (s.slot i).generation - 1#8,
           (s.slot i).lastReason.elim 0#8 reasonCode])).flatten) s t ∧
      (t.port p).kinds = 0#8 ∧ (t.port p).standing = 0#8 ∧ (t.port p).fault = 0#8 ∧ (t.port p).egress = 0#8 ∧
      (t.port p).attention = false ∧
      (∀ i, t.slot i = if i ∈ mine then { s.slot i with mark := none } else s.slot i) := by
  intro mine
  have hx : exec (.collectNotices p seq) s = _ := arrive_answered hr (k := .collectNotices) seq (b := []) (by simp)
    (checked_hearRequest (by rintro x (rfl | rfl | rfl) <;> rfl) rfl rfl)
  have hmine : markedSlots (s.hearRequest p) p = mine := by
    rw [markedSlots_eq]
    cases p <;> rfl
  have hbytes : noticeBytes (s.hearRequest p) p = [(s.port p).kinds, (s.port p).standing, (s.port p).fault,
      (s.port p).egress, BitVec.ofNat 8 mine.length] ++
      (mine.map (fun i => [s.epoch, BitVec.ofNat 8 i.val, (s.slot i).generation - 1#8,
        (s.slot i).lastReason.elim 0#8 reasonCode])).flatten := by
    rw [noticeBytes, hmine, funext (markedBytes_eq (s.hearRequest p))]
    cases p <;> rfl
  have hslot := slot_clearMarks mine (s.hearRequest p)
  obtain ⟨sl, hsl⟩ := clearMarks_eq mine (s.hearRequest p)
  rw [doCollectNotices, hbytes, hmine, hsl] at hx
  rw [hsl] at hslot
  generalize [(s.port p).kinds, (s.port p).standing, (s.port p).fault, (s.port p).egress,
    BitVec.ofNat 8 mine.length] ++ (mine.map (fun i => [s.epoch, BitVec.ofNat 8 i.val, (s.slot i).generation - 1#8,
      (s.slot i).lastReason.elim 0#8 reasonCode])).flatten = payload at hx ⊢
  obtain ⟨ha, hs⟩ := answers_of_heard (s.heardAt_written (p := p) (sl := sl) (f := PortState.collected)
    (fun x => ⟨_, _, _, _, _, rfl⟩)) RequestKind.collectNotices.code seq (.ok payload)
  obtain ⟨_, _, hport⟩ := port_answered (s.written p sl .collected) p RequestKind.collectNotices.code seq (.ok payload)
  rw [State.port_written] at hport
  obtain ⟨hcontrol, hdoors, hlines, hclu, hsent, hfree, hlink, hnotices⟩ :=
    OnlyPort.answered s p sl .collected RequestKind.collectNotices.code seq (.ok payload)
  refine ⟨_, hx, hcontrol, hdoors, hlines, hclu, hsent, hfree,
    (congrArg PortState.mask hport).trans rfl, hlink, hnotices,
    hs, ha, congrArg PortState.kinds hport, congrArg PortState.standing hport, congrArg PortState.fault hport,
    congrArg PortState.egress hport, (congrArg PortState.attention hport).trans ?_, fun i => ?_⟩
  · simp [PortState.wantsAttention, PortState.collected]
  · refine (slot_answered (s.written p sl .collected) p _ seq _ i).trans ?_
    rw [State.written, State.modPort_slot_of, hslot, State.slot_hearRequest]

/-- R158, R173: NOTICE_MASK. -/
theorem noticeMask_answers (p : Port) (seq : Byte) (m : KindSet) (s : State) (hr : Ready p s) :
    ∃ t, exec (.noticeMask p seq m) s = .next t ∧ SameButPorts s t ∧ t.free = s.free ∧ SameNotices p s t ∧
      SameLink (otherPort p) s t ∧ SameNotices (otherPort p) s t ∧ Supervised p s t ∧
      Answers p RequestKind.noticeMask.code seq .ok [m] s t ∧ (t.port p).mask = m ∧
      (t.port p).attention =
        decide (∃ n : Fin 8, (s.port p).kinds.getLsbD n.val = true ∧ m.getLsbD n.val = false) := by
  have hx : exec (.noticeMask p seq m) s =
      .next ((s.written p s.slots (.masked m)).formAnswer p RequestKind.noticeMask.code seq (.ok [m])
        false).settle := by
    refine (arrive_answered hr (k := .noticeMask) seq (b := [m]) (by simp)
      (checked_hearRequest (by rintro x (rfl | rfl | rfl) <;> rfl) rfl rfl)).trans ?_
    cases p <;> rfl
  obtain ⟨ha, hs⟩ := answers_of_heard (s.heardAt_written (p := p) (sl := s.slots) (f := .masked m)
    (fun x => ⟨_, _, _, _, _, rfl⟩)) RequestKind.noticeMask.code seq (.ok [m])
  obtain ⟨_, _, hport⟩ := port_answered (s.written p s.slots (.masked m)) p RequestKind.noticeMask.code seq (.ok [m])
  rw [State.port_written] at hport
  obtain ⟨hcontrol, hdoors, hlines, hclu, hsent, hfree, hlink, hnotices⟩ :=
    OnlyPort.answered s p s.slots (.masked m) RequestKind.noticeMask.code seq (.ok [m])
  have hslots := (slots_answered (s.written p s.slots (.masked m)) p RequestKind.noticeMask.code seq (.ok [m])).trans
    (State.modPort_slots _ p _)
  refine ⟨_, hx, ⟨hcontrol, hslots, hdoors, hlines, hclu, hsent⟩, hfree,
    ⟨(congrArg PortState.kinds hport :), (congrArg PortState.standing hport :), (congrArg PortState.fault hport :),
      (congrArg PortState.egress hport :)⟩, hlink, hnotices, hs, ha, congrArg PortState.mask hport,
    (congrArg PortState.attention hport).trans (wantsAttention_eq _)⟩

/-- Settles O18: either request writes its port's notices or mask, and marks. -/
theorem noticesAreCollectedAndMasked : Obligations.NoticesAreCollectedAndMasked :=
  ⟨collectNotices_answers, noticeMask_answers⟩

end Sys2Proof.Machine
end

section
/-! PROOF. A loss that the table has not yet taken is taken before the port's next request (R170, log 20). -/

namespace Sys2Proof.Machine

open Claims

/-- A request command is a message that arrives at its port. -/
theorem exec_of_requestOf {c : Instr} {p : Port} {k : RequestKind} {seq : Byte} {b : List Byte}
    (h : requestOf c = some (p, k, seq, b)) (s : State) : exec c s = arrive k p seq b s := by
  cases c <;> cases h <;> rfl

/-- R164: the parameters of a well-formed request fit a message. -/
theorem length_of_requestOf {c : Instr} {p : Port} {k : RequestKind} {seq : Byte} {b : List Byte}
    (h : requestOf c = some (p, k, seq, b)) (hw : WellFormed c = true) : b.length ≤ 30 := by
  cases c <;> cases h
  case configWrite l =>
    have hl : l.length ≤ 27 := of_decide_eq_true hw
    simp [configWriteBytes, halfBytes]
    omega
  all_goals simp [placeBytes, amendBytes, renewBytes, handleBytes, halfBytes, configReadBytes]

/-- A port whose receiver and supervision are those of another. -/
def PortState.unheard (x y : PortState) : PortState :=
  { y with rx := x.rx, awaitHigh := x.awaitHigh, sup := x.sup, supTimer := x.supTimer }

theorem State.modPort_of_fixed {s : State} {p : Port} {f : PortState → PortState} (h : f (s.port p) = s.port p) :
    s.modPort p f = s := by
  rw [State.modPort, h]
  cases p <;> rfl

theorem State.modPort_modPort (s : State) (p : Port) (f g : PortState → PortState) :
    (s.modPort p f).modPort p g = s.modPort p (g ∘ f) := by
  cases p <;> rfl

/-- Taking back what a request does at its port and hearing the request again comes to the same. -/
theorem hearRequest_unheard {p : Port} {s v : State} (h : HeardAt p s v) (hc : v.cfg = s.cfg) :
    (v.modPort p (PortState.unheard (s.port p))).hearRequest p = v := by
  rw [State.hearRequest, State.modPort_modPort, State.modPort_cfg, hc]
  refine State.modPort_of_fixed ?_
  obtain ⟨hrx, hhigh, hsup, htimer, _, _, _⟩ := h
  generalize v.port p = y at hrx hhigh hsup htimer ⊢
  cases y
  subst hrx hhigh hsup htimer
  rfl

/-- The part without the outstanding losses of port p. -/
def State.lossDropped (s : State) (p : Port) : State := { s with sent := s.sent.filter (fun e => e != .linkLost p) }

theorem State.port_lossDropped (s : State) (p q : Port) : (s.lossDropped p).port q = s.port q := rfl

theorem lossDropped_hearRequest (s : State) (p : Port) :
    (s.hearRequest p).lossDropped p = (s.lossDropped p).hearRequest p := by
  cases p <;> rfl

/-- The table's loss of port p, once the port has heard its request. -/
def State.lossHeard (s : State) (p : Port) : State := takeLinkLost p ((s.lossDropped p).hearRequest p)

/-- The part that the loss leaves, the request of the port not yet heard. -/
def State.lossTaken (s : State) (p : Port) : State := (s.lossHeard p).modPort p (PortState.unheard (s.port p))

theorem settleLoss_of_lost {p : Port} {s : State} (h : s.sent.contains (.linkLost p) = true) :
    settleLoss p (s.hearRequest p) = s.lossHeard p := by
  have h1 : (s.hearRequest p).sent.contains (.linkLost p) = true := by
    rw [State.hearRequest, State.modPort_sent]
    exact h
  rw [settleLoss, if_pos h1]
  exact congrArg (takeLinkLost p) (lossDropped_hearRequest s p)

theorem hold_lossDropped (s : State) (p : Port) (i : SlotNo) :
    ((s.lossDropped p).hearRequest p).hold i = s.hold i := State.hold_hearRequest (s.lossDropped p) p i

/-- R23: the slots that a loss retires. -/
theorem mem_lossSlots (s : State) (p : Port) (i : SlotNo) (h : Hold) (hi : s.hold i = some h) :
    i ∈ ((s.lossDropped p).hearRequest p).slotsWhere (fun _ h => ofPort p h.issuer) ↔ heldBy p i h :=
  mem_slotsWhere_of (fun i h => ofPort_eq p i h) i h ((hold_lossDropped s p i).trans hi)

/-- R23: the loss is an event at the table of the part that has heard the request. -/
theorem tableEvent_lossHeard (s : State) (p : Port) : TableEvent ((s.lossDropped p).hearRequest p) (s.lossHeard p) :=
  tableEvent_of_offTable (offTable_tableRetire _ _ _ _)

theorem sameLink_lossHeard (s : State) (p q : Port) : SameLink q ((s.lossDropped p).hearRequest p) (s.lossHeard p) := by
  obtain ⟨_, _, _, _, hT, hS⟩ := tableEvent_lossHeard s p
  cases q
  · exact hT
  · exact hS

/-- R170: hearing the request again in the part that the loss leaves comes to the same. -/
theorem hearRequest_lossTaken (s : State) (p : Port) : (s.lossTaken p).hearRequest p = s.lossHeard p := by
  obtain ⟨⟨_, _, _, _, _, _, hcfg, _⟩, _⟩ := tableEvent_lossHeard s p
  have hh : HeardAt p (s.lossDropped p) (s.lossHeard p) := .of_sameLink (sameLink_lossHeard s p p)
  exact hearRequest_unheard (s := s.lossDropped p) hh (hcfg.trans (State.modPort_cfg _ p _))

/-- R23: a loss taken is an event at the table. -/
theorem tableEvent_lossTaken (s : State) (p : Port) : TableEvent s (s.lossTaken p) := by
  obtain ⟨hc, hl, hu, hf, _, _⟩ := tableEvent_lossHeard s p
  have hown : SameLink p s (s.lossTaken p) := by
    obtain ⟨_, _, hslot, hbuffer, hoverrun, _, _, hline, hmask⟩ := sameLink_lossHeard s p p
    rw [State.hearRequest, State.port_modPort] at hslot hbuffer hoverrun hline hmask
    rw [SameLink, State.lossTaken, State.port_modPort]
    exact ⟨rfl, rfl, hslot, hbuffer, hoverrun, rfl, rfl, hline, hmask⟩
  have hother : SameLink (otherPort p) s (s.lossTaken p) := by
    have h := sameLink_lossHeard s p (otherPort p)
    rw [SameLink, State.hearRequest, State.port_modPort_other] at h
    rw [SameLink, State.lossTaken, State.port_modPort_other]
    exact h
  cases p
  · exact ⟨hc, hl, hu, hf, hown, hother⟩
  · exact ⟨hc, hl, hu, hf, hother, hown⟩

theorem slot_lossTaken (s : State) (p : Port) (i : SlotNo) : (s.lossTaken p).slot i = (s.lossHeard p).slot i :=
  State.modPort_slot_of _ p _ i

theorem retires_lossTaken (s : State) (p : Port) : Retires (heldBy p) .linkLost false s (s.lossTaken p) := by
  refine fun i => ?_
  rw [slot_lossTaken, ← hold_lossDropped s p]
  have hslot : s.slot i = ((s.lossDropped p).hearRequest p).slot i :=
    (State.slot_hearRequest (s.lossDropped p) p i).symm
  rw [hslot]
  exact retires_tableRetire .linkLost false (State.nodup_slotsWhere _ _)
    (fun i h hi => mem_lossSlots s p i h ((hold_lossDropped s p i).symm.trans hi)) i

theorem retiredNotices_lossTaken (s : State) (p : Port) : RetiredNotices (heldBy p) s (s.lossTaken p) := by
  intro i h hi hs hp
  have hk : ∀ q, ((s.lossTaken p).port q).kinds = ((s.lossHeard p).port q).kinds := fun q => by
    cases p <;> cases q <;> rfl
  rw [hk]
  exact retiredNotices_tableRetire .linkLost (fun i h hi hs => (mem_lossSlots s p i h
    ((hold_lossDropped s p i).symm.trans hi)).mpr hs) i h ((hold_lossDropped s p i).trans hi) hs hp

theorem doorsFollow_lossTaken (s : State) (p : Port) :
    DoorsFollow (inScopes (heldBy p) s) (s.lossDropped p) (s.lossTaken p) := by
  have hret : DoorsFollow (inScopes (heldBy p) (s.lossDropped p)) (s.lossDropped p) (s.lossHeard p) :=
    doorsFollow_tableRetire .linkLost false (.hearRequest (s.lossDropped p) p)
      (State.hold_hearRequest (s.lossDropped p) p)
      (fun i h hi => mem_lossSlots s p i h ((hold_lossDropped s p i).symm.trans hi))
  exact doorsFollow_congr hret (.modPort _ p _) (State.modPort_slots _ p _)

/-- No loss of the port is outstanding once one was taken: what the doorways send is no loss. -/
theorem lossTaken_sent (s : State) (p : Port) : (s.lossTaken p).sent.contains (.linkLost p) = false := by
  obtain ⟨_, ho⟩ := doorsFollow_lossTaken s p
  refine Bool.eq_false_iff.mpr (fun hc => ?_)
  have hd : (!doors.any (fun d => fromDoor d (.linkLost p))) = true := by cases p <;> decide
  have hm := List.mem_filter (p := fun e => !doors.any (fun d => fromDoor d e)).mpr ⟨List.contains_iff_mem.mp hc, hd⟩
  rw [ho] at hm
  have := (List.mem_filter.mp (List.mem_of_mem_filter hm)).2
  simp at this

/-- The part that the loss leaves is ready for the request. -/
theorem ready_lossTaken {s : State} {p : Port} (hr : s.running = true) (hf : (s.port p).slot = .free) :
    Ready p (s.lossTaken p) := by
  obtain ⟨⟨hsup, hrst, _⟩, _, _, _, hT, hS⟩ := tableEvent_lossTaken s p
  refine ⟨?_, ?_, lossTaken_sent s p⟩
  · rw [State.running, hsup, hrst]
    exact hr
  · obtain ⟨_, _, hslot, _⟩ : SameLink p s (s.lossTaken p) := by cases p; exacts [hT, hS]
    exact hslot.trans hf

/-- Settles O11: the part that the loss leaves, before the port hears its request, is lossTaken. -/
theorem lossIsTakenBeforeTheNextRequest : Obligations.LossIsTakenBeforeTheNextRequest := by
  intro c p k seq b s hq hw hr hf hl s1
  have hb := length_of_requestOf hq hw
  obtain ⟨hr1, hf1, hn⟩ := ready_lossTaken hr hf
  refine ⟨s.lossTaken p, _, tableEvent_lossTaken s p, retires_lossTaken s p, retiredNotices_lossTaken s p,
    doorsFollow_lossTaken s p, ⟨hr1, hf1, hn⟩, (exec_of_requestOf hq _).trans (arrive_of_free hr1 hf1 k seq hb), ?_⟩
  rw [exec_of_requestOf hq, arrive_of_free hr hf k seq hb, settleLoss_of_lost hl, settleLoss_of_none,
    hearRequest_lossTaken]
  rw [State.hearRequest, State.modPort_sent]
  exact hn

end Sys2Proof.Machine
end

section
/-! PROOF. The part at reset: its start values, and every invariant (R30, R32, R77, R79, R115, R128, R175, R181). -/

namespace Sys2Proof.Machine

open Claims Safety

/-! ### What stands at reset -/

theorem slot_reset (i : SlotNo) : State.reset.slot i = .start := by simp [State.reset, State.slot]

theorem hold_reset (i : SlotNo) : State.reset.hold i = none := by rw [State.hold, slot_reset]; rfl

theorem demand_reset (d : Door) : State.reset.demand d = .resting := by simp [State.reset, State.demand]

theorem chan_reset (d : Door) : State.reset.chan d = .start true .low .low := by simp [State.reset, State.chan]

theorem guard_reset (d : Door) : State.reset.guard d = .start := by simp [State.reset, State.guard]

theorem filter_reset (l : Line) : State.reset.filter l = { pin := .low, level := .low, count := 0 } := by
  cases l <;> simp [State.reset, State.filter, LineBank.allLow, LineBank.get, Filter.start]

theorem cluDoor_reset (d : Door) :
    State.reset.cluDoor d = { cls := .low, lks := .low, chState := .unreferenced, proven := false } := by
  simp [State.reset, State.cluDoor]

/-- R176: every doorway is fitted by default. -/
theorem fitted_reset (d : Door) : State.reset.fitted d = true := by
  revert d
  decide +kernel

/-- R175: the ports start under the default line settings. -/
theorem port_reset (p : Port) : State.reset.port p = .start (State.reset.cfg.settings p) := by
  cases p <;> decide +kernel

/-- Settles O4, block by block. -/
theorem resetHasStartValues : Obligations.ResetHasStartValues := by
  refine ⟨⟨slot_reset, demand_reset, fun d => ?_, guard_reset, fun l => ?_, rfl, rfl, rfl, rfl, fun d => ?_, ?_,
    rfl, rfl, rfl, rfl, port_reset⟩, rfl, rfl, rfl, rfl, rfl, rfl, rfl, rfl, rfl⟩
  · rw [chan_reset, fitted_reset]
    exact ⟨rfl, rfl, rfl, rfl, rfl, rfl, rfl, ⟨rfl, rfl, rfl, rfl, rfl, rfl⟩, rfl, rfl, rfl, rfl⟩
  · rw [filter_reset]
  · rw [cluDoor_reset, filter_reset, filter_reset, chan_reset]
    rfl
  · rw [filter_reset]
    rfl

/-! ### The invariants at reset -/

theorem tableOk_reset : TableOk State.reset :=
  ⟨fun i => by rw [slotOk, slot_reset]; rfl, rfl⟩

theorem quotasOk_reset : QuotasOk State.reset := by
  unfold QuotasOk
  decide +kernel

theorem configureQuiet_reset : ConfigureQuiet State.reset := fun _ =>
  ⟨hold_reset, fun d => by rw [doorQuiet, chan_reset, fitted_reset, demand_reset, guard_reset]; decide⟩

theorem linkOk_reset : LinkOk State.reset :=
  ⟨⟨nofun, by decide, nofun⟩, ⟨nofun, by decide, nofun⟩, nofun, ⟨nofun, fun ⟨_, h⟩ => nomatch h⟩⟩

theorem outputsOk_reset : OutputsOk State.reset := by
  refine ⟨configureQuiet_reset, fun d => ⟨⟨fun _ => ?_, nofun⟩, fun h => ?_, nofun⟩⟩
  · rw [solenoidFits, chan_reset]
    refine ⟨rfl, rfl, nofun, ?_, nofun⟩
    rintro (h | h) <;> cases h
  · rw [fitted_reset] at h
    cases h

theorem obstructionOk_reset : ObstructionOk State.reset := by
  refine ⟨configureQuiet_reset, fun d => ?_⟩
  rw [guardOk, guard_reset, chan_reset]
  exact ⟨Nat.zero_le _, by decide, rfl, by decide, nofun⟩

/-- The CRC of a run of erased bytes comes back to 0 after 127 of them. -/
theorem foldl_crc_erased (n : Nat) :
    (List.replicate (127 + n) 0xFF#8).foldl crcByte 0#8 = (List.replicate n 0xFF#8).foldl crcByte 0#8 := by
  have hhalf : (List.replicate 64 0xFF#8).foldl crcByte 0#8 = 0x2D#8 := by decide +kernel
  have hturn : (List.replicate 63 0xFF#8).foldl crcByte 0x2D#8 = 0#8 := by decide +kernel
  rw [show 127 + n = 64 + (63 + n) by omega, List.replicate_add, List.replicate_add, List.foldl_append,
    List.foldl_append, hhalf, hturn]

/-- R177: a stored image that was never written is not a good one. -/
theorem stored_reset_bad : State.reset.stored.good = false := by
  have hlen : imageLength = 127 + (127 + (127 + 64)) := rfl
  have hrest : (List.replicate 64 0xFF#8).foldl crcByte 0#8 ≠ 0xFF#8 := by decide +kernel
  refine beq_eq_false_iff_ne.mpr (fun h => hrest ?_)
  rw [← foldl_crc_erased, ← foldl_crc_erased, ← foldl_crc_erased, ← hlen]
  exact h.symm

theorem configOk_reset : ConfigOk State.reset := by
  refine ⟨?_, nofun, fun h => by rw [stored_reset_bad] at h; cases h⟩
  unfold imageOk
  decide +kernel

/-- Settles O5, invariant by invariant. -/
theorem invariantsHoldAtReset : Obligations.InvariantsHoldAtReset :=
  ⟨tableOk_reset, quotasOk_reset, configureQuiet_reset, ⟨by decide, nofun, by decide⟩, linkOk_reset,
    fun _ => ⟨by decide +kernel, by decide +kernel, rfl, rfl⟩, outputsOk_reset,
    ⟨tableOk_reset, configureQuiet_reset, nofun⟩, obstructionOk_reset, configOk_reset⟩

end Sys2Proof.Machine
end

section
/-! SUPPORT. What a live hold of a sound table is like (R6, R9, R10), and which of the table's operations keep it so. -/

namespace Sys2Proof.Machine

open Claims Safety

/-! ### Fixed slots (Table 1-1, R10, R14) -/

theorem slotRole_eq_pool (i : SlotNo) : slotRole i = .pool ↔ isPool i = true := by
  revert i; decide

/-- Table 1-4: a fixed slot's issuer places its kind over its scope, with no cap below 7. -/
theorem SlotRole.fixed {r : SlotRole} {x : Issuer} (h : r.issuer = some x) :
    mayPlace x r.kind = true ∧ levelCap x = 7 ∧ r.scope ≠ 0#8 := by
  rcases r with sd | d | d | d | _ <;> cases h
  · cases sd <;> decide
  all_goals exact ⟨rfl, rfl, by revert d; decide⟩

/-- R9: the holds of the panel and guard sections are OPEN holds of one doorway. -/
theorem SlotRole.single_of_waiting {r : SlotRole} {x : Issuer} (h : r.issuer = some x) (hx : x = .pnl ∨ x = .grd) :
    r.kind = .opens ∧ isSingle r.scope = true := by
  rcases r with sd | d | d | d | _ <;> cases h <;> rcases hx with hx | hx <;> cases hx
  all_goals exact ⟨rfl, by revert d; decide⟩

/-- R14: the issuers of fixed slots send no requests. -/
theorem SlotRole.not_link {r : SlotRole} {x : Issuer} (h : r.issuer = some x) :
    ¬ (x = .trn ∨ x = .atd ∨ x = .mnt) := by
  rcases r with sd | d | d | d | _ <;> cases h <;> decide

theorem roleOk_of_fixed {i : SlotNo} {x : Issuer} (h : (slotRole i).issuer = some x) (a : Hold) :
    roleOk i a = true ↔ a.issuer = x ∧ a.scope = (slotRole i).scope := by
  simp [roleOk, h]

theorem roleOk_of_pool {i : SlotNo} (h : (slotRole i).issuer = none) (a : Hold) :
    roleOk i a = true ↔ a.issuer = .trn ∨ a.issuer = .atd ∨ a.issuer = .mnt := by
  simp [roleOk, h, or_assoc]

/-! ### Sound holds -/

/-- R6, R9, R10: a live hold in slot i, clause by clause. -/
structure HoldSound (s : State) (i : SlotNo) (h : Hold) : Prop where
  handle : h.handle = { epoch := s.epoch, slot := BitVec.ofNat 8 i.val, generation := (s.slot i).generation }
  role : roleOk i h = true
  kind : mayPlace h.issuer h.kind = true
  level : h.level.val ≤ levelCap h.issuer
  scope : h.scope ≠ 0#8
  waiting : h.countdown = .waiting → h.kind = .opens ∧ isSingle h.scope = true
  limit : h.limit ≠ none → h.kind = .opens
  rwl : h.rwl = true → h.kind = .closes ∨ h.kind = .isolate

theorem holdOk_iff (s : State) (i : SlotNo) (h : Hold) : holdOk s i h = true ↔ HoldSound s i h := by
  have hw : (h.countdown != .waiting || (h.kind == .opens && isSingle h.scope)) = true ↔
      (h.countdown = .waiting → h.kind = .opens ∧ isSingle h.scope = true) := by
    cases h.countdown <;> simp
  have hl : (h.limit.isNone || h.kind == .opens) = true ↔ (h.limit ≠ none → h.kind = .opens) := by
    cases h.limit <;> simp
  have hr : (!h.rwl || h.kind == .closes || h.kind == .isolate) = true ↔
      (h.rwl = true → h.kind = .closes ∨ h.kind = .isolate) := by
    cases h.rwl <;> simp
  simp only [holdOk, Bool.and_eq_true]
  rw [hw, hl, hr, beq_iff_eq, bne_iff_ne, decide_eq_true_eq]
  constructor
  · rintro ⟨⟨⟨⟨⟨⟨⟨h1, h2⟩, h3⟩, h4⟩, h5⟩, h6⟩, h7⟩, h8⟩
    exact ⟨h1, h2, h3, h4, h5, h6, h7, h8⟩
  · rintro ⟨h1, h2, h3, h4, h5, h6, h7, h8⟩
    exact ⟨⟨⟨⟨⟨⟨⟨h1, h2⟩, h3⟩, h4⟩, h5⟩, h6⟩, h7⟩, h8⟩

section Kept
variable {s : State} {i : SlotNo} {h : Hold} (hs : HoldSound s i h)
include hs

/-- R24: a countdown may start. -/
theorem HoldSound.run : HoldSound s i { h with countdown := .running } := { hs with waiting := nofun }

/-- R25: one that waits may start at once. -/
theorem HoldSound.startAtOnce (u : State) : HoldSound s i (u.startAtOnce h) := by
  unfold State.startAtOnce
  split
  · exact hs.run
  · exact hs

/-- R17: no clause reads the lifetime. -/
theorem HoldSound.renewed (l : Option Nat) : HoldSound s i { h with lifetime := l } := { hs with }

/-- The fixed slot's issuer and scope are the hold's. -/
theorem HoldSound.fixed {x : Issuer} (hr : (slotRole i).issuer = some x) :
    h.issuer = x ∧ h.scope = (slotRole i).scope := (roleOk_of_fixed hr h).mp hs.role

/-- R15: a raised button press. -/
theorem HoldSound.raisedPress {d : Door} (hr : slotRole i = .pnl d) (l : HoldLevel) (n : Option Nat) :
    HoldSound s i { h with level := l, lifetime := n, countdown := .waiting } := by
  obtain ⟨hx, hsc⟩ := hs.fixed (x := .pnl) (by rw [hr]; rfl)
  have hk := hs.kind
  rw [hx] at hk
  have hopens : h.kind = .opens := by revert hk; cases h.kind <;> decide
  have hone : isSingle h.scope = true := by
    rw [hsc]
    exact (SlotRole.single_of_waiting (by rw [hr]; rfl) (.inl rfl)).2
  exact { hs with level := by rw [hx]; exact Nat.le_of_lt_succ l.isLt, waiting := fun _ => ⟨hopens, hone⟩ }

/-- R15: a raised handle. -/
theorem HoldSound.raisedHandle {d : Door} (hr : slotRole i = .hdl d) : HoldSound s i { h with level := 7 } := by
  obtain ⟨hx, _⟩ := hs.fixed (x := .hdl) (by rw [hr]; rfl)
  exact { hs with level := by rw [hx]; exact Nat.le_refl 7 }

end Kept

/-! ### Internal placements (R14) -/

/-- R14: what the shape of a placement says. -/
theorem placementShape_iff (q : Placement) : placementShape q = true ↔
    (slotRole q.slot).issuer = some q.issuer ∧ (q.waiting = true → q.issuer = .pnl ∨ q.issuer = .grd) ∧
    (q.limit ≠ none → q.issuer = .grd) := by
  unfold placementShape
  cases q.waiting <;> cases q.limit <;> simp [and_assoc]

/-- R14: a hold that an internal placement creates. -/
theorem HoldSound.newHold {q : Placement} (hq : placementShape q = true) (s : State) :
    HoldSound s q.slot (Placement.newHold q s) := by
  obtain ⟨hi, hw, hl⟩ := (placementShape_iff q).mp hq
  obtain ⟨hk, hc, hsc⟩ := SlotRole.fixed hi
  refine ⟨rfl, (roleOk_of_fixed hi _).mpr ⟨rfl, rfl⟩, hk, ?_, hsc, fun hcd => ?_, fun hlim => ?_, nofun⟩
  · exact (Nat.le_of_lt_succ q.level.isLt).trans_eq hc.symm
  · have hwait : q.waiting = true := by
      by_contra hno
      simp [Placement.newHold, hno] at hcd
    exact SlotRole.single_of_waiting hi (hw hwait)
  · exact (SlotRole.single_of_waiting hi (.inr (hl hlim))).1

/-- R14: a hold that an internal placement renews. -/
theorem HoldSound.renew {s : State} {q : Placement} {h : Hold} (hq : placementShape q = true)
    (hs : HoldSound s q.slot h) : HoldSound s q.slot (Placement.renew q h) := by
  obtain ⟨hi, hw, hl⟩ := (placementShape_iff q).mp hq
  obtain ⟨hk, hc, hsc⟩ := SlotRole.fixed hi
  obtain ⟨hx, hscope⟩ := hs.fixed hi
  have hopens : q.issuer = .pnl ∨ q.issuer = .grd → h.kind = .opens := fun hx' => by
    have hk := hs.kind
    rw [hx] at hk
    rcases hx' with hx' | hx' <;> rw [hx'] at hk <;> revert hk <;> cases h.kind <;> decide
  refine { hs with level := ?_, waiting := fun hcd => ?_, limit := fun hlim => hopens (.inr (hl hlim)) }
  · exact (Nat.le_of_lt_succ q.level.isLt).trans_eq
      (by rw [show (Placement.renew q h).issuer = h.issuer from rfl, hx, hc])
  · by_cases hf : h.inForce = true
    · simp only [Placement.renew, hf, if_true] at hcd
      exact hs.waiting hcd
    · have hwait : q.waiting = true := by
        by_contra hno
        simp [Placement.renew, hf, hno] at hcd
      refine ⟨hopens (hw hwait), ?_⟩
      have hone := (SlotRole.single_of_waiting hi (hw hwait)).2
      rw [← hscope] at hone
      exact hone

/-! ### Placements and amendments by request (R9, R13, R16) -/

/-- R9, as `obeysR9` checks it. -/
theorem obeysR9_clauses {s : State} {k : HoldKind} {sc : DoorSet} {w : Bool} {m : Option Nat} {r : Bool}
    (h : obeysR9 s k sc w m r = true) :
    (w = true → k = .opens ∧ isSingle sc = true) ∧ (m ≠ none → k = .opens) ∧
    (r = true → k = .closes ∨ k = .isolate) := by
  simp only [obeysR9, Bool.and_eq_true, Bool.or_eq_true, Bool.not_eq_true', beq_iff_eq] at h
  obtain ⟨⟨hw, hm⟩, hr⟩ := h
  refine ⟨fun k => hw.resolve_left (by simp [k]), fun k => ?_, fun k => ?_⟩
  · cases m with
    | none => exact absurd rfl k
    | some l => simp only [Bool.and_eq_true, beq_iff_eq] at hm; exact hm.1
  · rw [or_assoc] at hr
    exact hr.resolve_left (by simp [k])

/-- R13: a placement that passes its checks creates a sound hold in a pool slot. -/
theorem HoldSound.placed {a : PlaceAsked} {x : Issuer} {i : SlotNo} {s : State} (hi : isPool i = true)
    (hx : x = .trn ∨ x = .atd ∨ x = .mnt) (hk : mayPlace x a.kind = true) (hl : a.level.val ≤ levelCap x)
    (hsc : a.scope ≠ 0#8) (h9 : obeysR9 s a.kind a.scope a.waiting a.limit a.rwl = true) :
    HoldSound s i (a.newHold x i s) := by
  obtain ⟨hw, hlim, hr⟩ := obeysR9_clauses h9
  have hrole : (slotRole i).issuer = none := by rw [(slotRole_eq_pool i).mpr hi]; rfl
  refine ⟨rfl, (roleOk_of_pool hrole _).mpr hx, hk, hl, hsc, fun hcd => hw ?_, hlim, hr⟩
  by_contra hno
  simp [PlaceAsked.newHold, hno] at hcd

/-- R16: an amendment that passes its checks leaves a link issuer's hold sound. -/
theorem HoldSound.amended {a : AmendAsked} {s u : State} {i : SlotNo} {h : Hold} (hs : HoldSound s i h)
    (hx : h.issuer = .trn ∨ h.issuer = .atd ∨ h.issuer = .mnt) (hl : (a.level.getD 0).val ≤ levelCap h.issuer)
    (hsc : a.scope ≠ some 0#8)
    (h9 : obeysR9 u h.kind (a.applied h).scope (h.countdown == .waiting) (a.applied h).limit (a.applied h).rwl = true) :
    HoldSound s i (a.applied h) := by
  obtain ⟨hw, hlim, hr⟩ := obeysR9_clauses h9
  have hrole : (slotRole i).issuer = none := by
    cases hi : (slotRole i).issuer with
    | none => rfl
    | some x => exact absurd ((hs.fixed hi).1 ▸ hx) (SlotRole.not_link hi)
  refine ⟨hs.handle, (roleOk_of_pool hrole _).mpr hx, hs.kind, ?_, ?_, fun hcd => hw ?_, hlim, hr⟩
  · cases hlev : a.level with
    | none => simpa [AmendAsked.applied, hlev] using hs.level
    | some l => simpa [AmendAsked.applied, hlev] using hl
  · cases hsco : a.scope with
    | none => simpa [AmendAsked.applied, hsco] using hs.scope
    | some sc => simpa [AmendAsked.applied, hsco] using fun hz => hsc (by rw [hsco, hz])
  · rw [beq_iff_eq]
    exact hcd

end Sys2Proof.Machine
end

section
/-! SUPPORT. What the lines, the ports and the Car Loop Unit keep: a set of states that reads nothing of them, and that
is closed under what is sent (LinksClosed), is closed under each of their operations. -/

namespace Sys2Proof.Machine

open Claims Safety

/-- The table, the epoch, the mode, the configuration and the doorways stand, and nothing new is outstanding. -/
structure SameBlocks (s t : State) : Prop where
  slots : t.slots = s.slots
  epoch : t.epoch = s.epoch
  mode : t.mode = s.mode
  cfg : t.cfg = s.cfg
  chans : t.chans = s.chans
  guards : t.guards = s.guards
  demands : t.demands = s.demands
  sent : t.sent ⊆ s.sent

/-- The states of P are closed under what the lines, the ports and the Car Loop Unit write and send. -/
structure LinksClosed (P : Set State) : Prop where
  still : ∀ s t, s ∈ P → SameBlocks s t → t ∈ P
  send : ∀ s e, s ∈ P → (∀ q, e = .internalPlacement q → placementShape q = true) → s.send e ∈ P

/-- A list of doorways or slots gone through. -/
theorem mem_foldl {P : Set State} {α : Type} {f : State → α → State} (hf : ∀ s a, s ∈ P → f s a ∈ P) (l : List α) :
    ∀ {s : State}, s ∈ P → l.foldl f s ∈ P := by
  induction l with
  | nil => exact id
  | cons a l ih => exact fun hs => ih (hf _ a hs)

/-- R87: a GRD placement has the shape of its slot. -/
theorem placementShape_grdPlacement (cfg : Image) (d : Door) (p : Position) :
    placementShape (grdPlacement cfg d p) = true := by
  rw [placementShape_iff]
  exact ⟨by rw [show (grdPlacement cfg d p).slot = grdSlot d from rfl, slotRole_grdSlot]; rfl, fun _ => .inr rfl,
    fun _ => rfl⟩

/-- R106: an RLN placement has the shape of its slot, and so have those of a press (R110) and of a handle (R112). -/
theorem placementShape_rlnPlacement (sd : Side) : placementShape (rlnPlacement sd) = true := by cases sd <;> decide

theorem placementShape_pressPlacement {d : Door} {s : State} {q : Placement} (h : pressPlacement d s = some q) :
    placementShape q = true := by
  have hpnl : (slotRole (pnlSlot d)).issuer = some .pnl := by rw [(slotRole_eq_pnl _ d).mpr rfl]; rfl
  rw [placementShape_iff]
  unfold pressPlacement at h
  split at h
  · cases h
    exact ⟨hpnl, fun _ => .inl rfl, fun k => absurd rfl k⟩
  · split at h
    · cases h
    · cases h
      exact ⟨hpnl, nofun, fun k => absurd rfl k⟩

theorem placementShape_handlePlacement (d : Door) (s : State) : placementShape (handlePlacement d s) = true := by
  rw [placementShape_iff]
  exact ⟨by rw [(slotRole_eq_hdl (handlePlacement d s).slot d).mpr rfl]; rfl, nofun, fun k => absurd rfl k⟩

section Operations
variable {P : Set State} (h : LinksClosed P) {s : State} (hs : s ∈ P)
include h

/-! ### Ports, notices and what is sent -/

include hs in
theorem mem_sent {l : List Instr} (hl : l ⊆ s.sent) : { s with sent := l } ∈ P :=
  h.still s _ hs ⟨rfl, rfl, rfl, rfl, rfl, rfl, rfl, hl⟩

include hs in
theorem mem_modPort (p : Port) (f : PortState → PortState) : s.modPort p f ∈ P := by
  cases p <;> exact h.still s _ hs ⟨rfl, rfl, rfl, rfl, rfl, rfl, rfl, List.Subset.refl _⟩

include hs in
theorem mem_raiseOn (p : Port) (k : NoticeKind) : s.raiseOn p k ∈ P := mem_modPort h hs p _

include hs in
theorem mem_raiseBoth (k : NoticeKind) : s.raiseBoth k ∈ P := mem_raiseOn h (mem_raiseOn h hs .t k) .s k

include hs in
theorem mem_raiseDoor (k : NoticeKind) (d : Door) : s.raiseDoor k d ∈ P := mem_modPort h (mem_modPort h hs _ _) _ _

include hs in
theorem mem_setFilter (l : Line) (f : Filter) : s.setFilter l f ∈ P :=
  h.still s _ hs ⟨rfl, rfl, rfl, rfl, rfl, rfl, rfl, List.Subset.refl _⟩

include hs in
theorem mem_settle : s.settle ∈ P := h.still s _ hs ⟨rfl, rfl, rfl, rfl, rfl, rfl, rfl, List.Subset.refl _⟩

/-- A command at a running part. -/
theorem mem_act {f : State → State} (hf : s ∈ P → f s ∈ P) (hs : s ∈ P) {t : State} (ht : act s f = .next t) :
    t ∈ P := by
  cases hr : s.running
  · rw [act_of_held f hr] at ht
    cases ht
    exact hs
  · rw [act_of_running f hr] at ht
    cases ht
    exact mem_settle h (hf hs)

include hs in
/-- An event that is taken. -/
theorem mem_takeSent {c : Instr} {s1 : State} (ht : s.takeSent c = some s1) : s1 ∈ P := by
  obtain ⟨r, hr, rfl⟩ := State.takeSent_eq ht
  exact mem_sent h hs (sublist_of_takeFirst hr).subset

/-- An event that one block sends another. -/
theorem mem_actSent {c : Instr} {f : State → State} (hf : ∀ s1, s.takeSent c = some s1 → s1 ∈ P → f s1 ∈ P)
    (hs : s ∈ P) {t : State} (ht : actSent s c f = .next t) : t ∈ P := by
  refine mem_act h (fun hs => ?_) hs ht
  cases hk : s.takeSent c with
  | none => exact hs
  | some s1 => exact hf s1 hk (mem_takeSent h hs hk)

include hs in
theorem mem_send {e : Instr} (he : ∀ q, e = .internalPlacement q → placementShape q = true) : s.send e ∈ P :=
  h.send s e hs he

/-- Several events sent in order. -/
theorem mem_sendAll {es : List Instr} (he : ∀ q, .internalPlacement q ∈ es → placementShape q = true) :
    ∀ {s : State}, s ∈ P → s.sendAll es ∈ P := by
  induction es with
  | nil =>
    intro s hs
    rw [State.sendAll, List.append_nil]
    exact hs
  | cons e es ih =>
    intro s hs
    have hone := mem_send h hs (e := e) (fun q hq => he q (hq ▸ List.mem_cons_self))
    have hrest := ih (fun q hq => he q (List.mem_cons_of_mem e hq)) hone
    rwa [State.sendAll, State.send, List.append_assoc] at hrest

/-! ### The lines (Chapter 5) -/

include hs in
theorem mem_takeRelease (sd : Side) (on : Bool) : takeRelease sd on s ∈ P := by
  unfold takeRelease
  split
  · exact hs
  split
  · refine mem_sendAll h (fun q hq => ?_) hs
    simp only [releaseEvents, List.mem_cons, Instr.internalPlacement.injEq, List.mem_map, reduceCtorEq, and_false,
      exists_false, or_false] at hq
    rw [hq]
    exact placementShape_rlnPlacement sd
  · exact mem_send h hs nofun

include hs in
theorem mem_takeZeroSpeed (lv : Level) : takeZeroSpeed lv s ∈ P := by
  have h1 : s.send (.zspdAtClu lv) ∈ P := mem_send h hs nofun
  unfold takeZeroSpeed
  dsimp only
  split
  · exact h1
  split
  · exact mem_sendAll h (fun q hq => by simp at hq) h1
  · exact mem_raiseBoth h h1 _

include hs in
theorem mem_takeButton (d : Door) (on : Bool) : takeButton d on s ∈ P := by
  unfold takeButton
  split
  · cases hq : pressPlacement d s with
    | none => exact hs
    | some q =>
      refine mem_send h hs (fun q' he => ?_)
      cases he
      exact placementShape_pressPlacement hq
  · exact hs

include hs in
theorem mem_takeHandle (d : Door) (on : Bool) : takeHandle d on s ∈ P := by
  unfold takeHandle
  split
  · refine mem_send h hs (fun q he => ?_)
    cases he
    exact placementShape_handlePlacement d s
  · exact hs

include hs in
/-- What an acceptance hands over. -/
theorem mem_handOver (l : Line) (lv : Level) : handOver l lv s ∈ P := by
  have hfit : ∀ (b : Bool) {u : State}, u ∈ P → (if b = true then u else s) ∈ P := fun b u hu => ite_mem b hu hs
  cases l with
  | relL => exact mem_takeRelease h hs _ _
  | relR => exact mem_takeRelease h hs _ _
  | zspd => exact mem_takeZeroSpeed h hs lv
  | mkey => exact hs
  | btn d => exact hfit _ (mem_takeButton h hs d _)
  | hdl d => exact hfit _ (mem_takeHandle h hs d _)
  | edge d => exact hfit _ (mem_send h hs nofun)
  | cls d => exact hfit _ (mem_sendAll h (fun q hq => by simp at hq) hs)
  | lks d => exact hfit _ (mem_sendAll h (fun q hq => by simp at hq) hs)
  | frc d => exact hfit _ (mem_send h hs nofun)
  | bflt d => exact hfit _ (mem_send h hs nofun)

include hs in
theorem mem_acceptLine (l : Line) (lv : Level) : acceptLine l lv s ∈ P := mem_handOver h (mem_setFilter h hs l _) l lv

include hs in
theorem mem_sampleLine (l : Line) (lv : Level) : sampleLine l lv s ∈ P := by
  unfold sampleLine
  dsimp only
  split
  · exact mem_setFilter h hs l _
  split
  · exact mem_acceptLine h hs l lv
  · exact mem_setFilter h hs l _

include hs in
theorem mem_takeLineRunEntry : takeLineRunEntry s ∈ P := by
  unfold takeLineRunEntry
  refine mem_foldl (fun s d hs => ite_mem _ (mem_takeHandle h hs d true) hs) _ ?_
  have h1 := ite_mem (s.asserted .relL) (mem_takeRelease h hs .left true) hs
  exact ite_mem _ (mem_takeRelease h h1 .right true) h1

end Operations

section Parts
variable {P : Set State} (h : LinksClosed P) {s : State} (hs : s ∈ P)
include h hs

theorem mem_execLineSample {t : State} {c : LineClass} {levels : List Level}
    (ht : execLineSample c levels s = .next t) : t ∈ P := by
  unfold execLineSample movePins sampleClass at ht
  cases ht
  split
  · exact hs
  split
  · exact mem_foldl (fun s x hs => mem_setFilter h hs _ _) _ hs
  split
  · exact hs
  · exact mem_settle h (mem_foldl (fun s x hs => mem_sampleLine h hs _ _) _ hs)

theorem mem_execLineAcceptance {t : State} {l : Line} {lv : Level}
    (ht : execLineAcceptance l lv s = .next t) : t ∈ P := by
  unfold execLineAcceptance at ht
  cases ht
  split
  · exact mem_setFilter h hs _ _
  split
  · exact mem_settle h (mem_acceptLine h hs l lv)
  · exact hs

/-! ### What a write of the configuration does to the lines and the ports (R104, R174) -/

theorem mem_applyCode (code : Nat) (l : Line) : applyCode code s l ∈ P := by
  unfold applyCode
  dsimp only
  split
  · exact mem_acceptLine h hs l _
  · exact mem_setFilter h hs l _

theorem mem_applyClass (was : Image) (c : LineClass) : applyClass was s c ∈ P := by
  unfold applyClass
  split
  · exact hs
  · exact mem_foldl (fun s l hs => mem_applyCode h hs _ l) _ hs

theorem mem_applySup (p : Port) : applySup s p ∈ P := by
  unfold applySup
  split
  · exact mem_modPort h hs p _
  · exact hs

/-! ### Answers and supervision (R160, R167 to R170, R177) -/

theorem mem_formAnswer (p : Port) (kind seq : Byte) (r : Reply) (b : Bool) : s.formAnswer p kind seq r b ∈ P :=
  mem_modPort h hs p _

omit hs in
theorem mem_reply (p : Port) (kind seq : Byte) {x : State × ReplyForm} (hx : x.1 ∈ P) : reply p kind seq x ∈ P := by
  unfold reply
  split
  · exact mem_formAnswer h hx ..
  · exact mem_modPort h hx p _
  · exact mem_formAnswer h hx ..

theorem mem_setRx (p : Port) (rx : Option Assembly) : s.setRx p rx ∈ P := mem_modPort h hs p _

theorem mem_takeStoreCompletion : takeStoreCompletion s ∈ P := by
  unfold takeStoreCompletion
  split
  · exact hs
  have h1 : ∀ im, { s with store := none, stored := im } ∈ P := fun im =>
    h.still s _ hs ⟨rfl, rfl, rfl, rfl, rfl, rfl, rfl, List.Subset.refl _⟩
  dsimp only
  split
  · exact mem_formAnswer h (h1 _) ..
  · exact h1 _
  · exact h1 _

theorem mem_supIntervalEnd (p : Port) : supIntervalEnd p s ∈ P := by
  unfold supIntervalEnd
  split
  · exact mem_raiseOn h (mem_modPort h hs p _) _ _
  · exact hs

theorem mem_supGraceEnd (p : Port) : supGraceEnd p s ∈ P := by
  unfold supGraceEnd
  split
  · exact mem_raiseOn h (mem_send h (mem_modPort h hs p _) (e := .linkLost p) nofun) _ _
  · exact hs

/-! ### The Car Loop Unit (Chapter 6) -/

theorem mem_setClu (x : CarLoop) : { s with clu := x } ∈ P :=
  h.still s _ hs ⟨rfl, rfl, rfl, rfl, rfl, rfl, rfl, List.Subset.refl _⟩

theorem mem_setLoop (on : Bool) : setLoop on s ∈ P := by
  unfold setLoop
  split
  · exact hs
  · exact mem_raiseBoth h (mem_setClu h hs _) _

theorem mem_updateStage : updateStage s ∈ P := by
  unfold updateStage
  split
  · exact hs
  split
  · split
    · exact mem_setClu h hs _
    · exact hs
  · exact mem_setLoop h (mem_setClu h hs { s.clu with stage := .unproven, timer := none }) false

theorem mem_takeCopies (d : Door) (x : CluDoor) : takeCopies d x s ∈ P := by
  have h1 : ∀ x, s.setCluDoor d x ∈ P := fun x => mem_setClu h hs _
  exact mem_updateStage h (ite_mem _ (mem_send h (h1 _) (e := .provenEvent d) nofun) (h1 _))

theorem mem_takeZspd (lv : Level) : takeZspd lv s ∈ P := by
  unfold takeZspd
  dsimp only
  repeat' split
  all_goals exact mem_setClu h hs _

theorem mem_provingEnd : provingEnd s ∈ P := by
  unfold provingEnd
  split
  · exact mem_setLoop h (mem_setClu h hs { s.clu with stage := .proven, timer := none }) true
  · exact hs

end Parts

/-! ### Messages (R163 to R167), where P is closed under their execution -/

section Messages
variable {P : Set State} (h : LinksClosed P) (he : ∀ s p m, s ∈ P → execute p m s ∈ P) {s : State} (hs : s ∈ P)
include h he hs

theorem mem_takeMessage (p : Port) (m : Message) : takeMessage p m s ∈ P := by
  unfold takeMessage
  split
  · exact he s p m hs
  all_goals exact mem_modPort h hs p _

theorem mem_takeRequest (p : Port) (kind seq : Byte) (b : List Byte) : takeRequest p kind seq b s ∈ P := by
  unfold takeRequest goodRequest
  refine mem_takeMessage h he ?_ p _
  split
  · exact hs
  · exact mem_modPort h hs p _

theorem mem_intake (p : Port) (damaged : Bool) (body : List Byte) : intake p damaged body s ∈ P :=
  ite_mem _ (mem_takeRequest h he hs p _ _ _) (ite_mem _ (mem_takeMessage h he hs p _) hs)

theorem mem_crcChar (p : Port) (err : Bool) (c : Byte) (a : Assembly) : crcChar p err c a s ∈ P :=
  mem_intake h he (mem_modPort h hs p _) p _ _

/-- R164: a character put to the assembly. -/
theorem mem_assemble (p : Port) (ch : RxChar) : assemble p ch s ∈ P := by
  unfold assemble
  dsimp only
  split
  · unfold huntChar
    split
    · exact mem_setRx h hs p _
    · exact hs
  split
  · unfold lenChar
    split
    · exact mem_setRx h hs p _
    · exact mem_setRx h hs p _
  split
  · exact mem_crcChar h he hs p _ _ _
  · exact mem_setRx h hs p _

theorem mem_completeMessage (p : Port) (ch : RxChar) : completeMessage p ch s ∈ P := by
  unfold completeMessage
  split
  · exact hs
  · exact ite_mem _ (mem_crcChar h he (mem_modPort h hs p _) p _ _ _) hs

theorem mem_takeAnswerSent (p : Port) : takeAnswerSent p s ∈ P := by
  have h1 : s.modPort p (fun x => { x with slot := .free, buffer := none }) ∈ P := mem_modPort h hs p _
  unfold takeAnswerSent endAnswer
  dsimp only
  split
  · exact hs
  · exact hs
  split
  · exact h1
  · exact he _ p _ h1

/-- A request that arrives. -/
theorem mem_arrive {t : State} {k : RequestKind} {p : Port} {seq : Byte} {b : List Byte}
    (ht : arrive k p seq b s = .next t) : t ∈ P := by
  refine mem_act h (fun hs => ?_) hs ht
  split
  · exact mem_takeRequest h he (mem_modPort h hs p _) p _ _ _
  · exact hs

end Messages

end Sys2Proof.Machine
end

section
/-! SUPPORT. What every operation keeps: a set of states that is closed under the few ways in which the table and what
is on its way to it are written (TableClosed) is closed under the channels, the table, the requests and a hold of the
part. -/

namespace Sys2Proof.Machine

open Claims Safety

/-- The table, the epoch and the mode stand, and nothing new is outstanding. -/
structure SameTable (s t : State) : Prop where
  slots : t.slots = s.slots
  epoch : t.epoch = s.epoch
  mode : t.mode = s.mode
  sent : t.sent ⊆ s.sent

/-- The states of P are closed under the ways in which the table and what is on its way to it are written. -/
structure TableClosed (P : Set State) : Prop where
  off : ∀ s t, s ∈ P → SameTable s t → t ∈ P
  run : ∀ s, s ∈ P → { s with mode := .run } ∈ P
  send : ∀ s e, s ∈ P → (∀ q, e = .internalPlacement q → placementShape q = true) → s.send e ∈ P
  retire : ∀ s i r own, s ∈ P → s.retireSlot i r own ∈ P
  countdowns : ∀ s d, s ∈ P → s.startCountdowns d ∈ P
  unmark : ∀ s i, s ∈ P → s.setSlot i { s.slot i with mark := none } ∈ P
  amend : ∀ s i a b, s ∈ P → s.hold i = some a → b.issuer = a.issuer → (HoldSound s i a → HoldSound s i b) →
    s.setHold i b ∈ P
  fill : ∀ s i a, s ∈ P → s.hold i = none → HoldSound s i a →
    (a.issuer = .trn ∨ a.issuer = .atd ∨ a.issuer = .mnt → s.liveCount a.issuer < quotaOf a.issuer) →
    s.fillSlot i a ∈ P

/-- What is off the table is off the lines, the ports and the Car Loop Unit. -/
theorem TableClosed.links {P : Set State} (h : TableClosed P) : LinksClosed P where
  still s t hs ht := h.off s t hs ⟨ht.slots, ht.epoch, ht.mode, ht.sent⟩
  send := h.send

section Table
variable {P : Set State} (h : TableClosed P) {s : State} (hs : s ∈ P)
include h

include hs in
/-- Where the table, the epoch, the mode and what is outstanding stand. -/
theorem mem_off {t : State} (h1 : t.slots = s.slots) (h2 : t.epoch = s.epoch) (h3 : t.mode = s.mode)
    (h4 : t.sent = s.sent) : t ∈ P := h.off s t hs ⟨h1, h2, h3, h4 ▸ List.Subset.refl _⟩

/-! ### The channels and the guard sections -/

/-- A doorway writes the table by what it sends alone. -/
theorem channelClosed (d : Door) : ChannelClosed d P where
  modChan s f hs := mem_off h hs rfl rfl rfl rfl
  modGuard s f hs := mem_off h hs rfl rfl rfl rfl
  setDemand s r hs := mem_off h hs rfl rfl rfl rfl
  dropGrd s hs := mem_sent h.links hs (List.filter_sublist.subset)
  send s c hc hs := mem_send h.links hs (fun q hq => by
    cases hc <;> cases hq
    exact placementShape_grdPlacement ..)
  raiseDoor s k _ hs := mem_raiseDoor h.links hs k d

include hs in
theorem mem_inRun {d : Door} {f : State → State} (hf : f s ∈ P) : inRun d f s ∈ P := by
  unfold inRun
  split
  · exact mem_atChannel (channelClosed h d) hf
  · exact hs

include hs in
theorem mem_recompute_table (sc : DoorSet) : recompute sc s ∈ P := mem_recompute (channelClosed h) sc hs

/-! ### The events at the table (Chapter 1) -/

include hs in
theorem mem_retireSlots (is : List SlotNo) (r : Reason) (own : Bool) : s.retireSlots is r own ∈ P :=
  mem_foldl (fun s i hs => h.retire s i r own hs) is hs

include hs in
theorem mem_tableRetire (is : List SlotNo) (r : Reason) (own : Bool) : tableRetire is r own s ∈ P :=
  mem_recompute_table h (mem_retireSlots h hs is r own) _

include hs in
theorem mem_takeExpiry (i : SlotNo) : takeExpiry i s ∈ P := by
  rw [takeExpiry_eq]
  exact mem_tableRetire h hs _ _ _

include hs in
theorem mem_takeChannelEntry (d : Door) (e : EntryKind) : takeChannelEntry d e s ∈ P :=
  mem_recompute_table h (h.countdowns _ d (mem_retireSlots h hs _ _ _)) _

include hs in
/-- R14: a placement of its slot's shape. -/
theorem mem_createInternal {q : Placement} (hq : placementShape q = true) (hn : s.hold q.slot = none) :
    createInternal q s ∈ P := by
  have h1 : s.fillSlot q.slot (s.startAtOnce (Placement.newHold q s)) ∈ P := by
    refine h.fill s _ _ hs hn ((HoldSound.newHold hq s).startAtOnce s) (fun hx => absurd hx ?_)
    rw [startAtOnce_eq]
    exact SlotRole.not_link ((placementShape_iff q).mp hq).1
  refine mem_recompute_table h ?_ _
  cases slotRole q.slot with
  | hdl d => exact mem_raiseDoor h.links h1 _ d
  | rln sd => exact h1
  | pnl d => exact h1
  | grd d => exact h1
  | pool => exact h1

include hs in
theorem mem_renewInternal {q : Placement} (hq : placementShape q = true) {a : Hold} (ha : s.hold q.slot = some a) :
    renewInternal q a s ∈ P := by
  refine mem_recompute_table h (h.amend s _ a _ hs ha ?_ (fun hsound => ?_)) _
  · rw [startAtOnce_eq]
    rfl
  · exact (hsound.renew hq).startAtOnce s

include hs in
theorem mem_takePlacement {q : Placement} (hq : placementShape q = true) : takePlacement q s ∈ P := by
  unfold takePlacement
  split
  · exact hs
  cases hh : s.hold q.slot with
  | none =>
    have hc := mem_createInternal h hs hq hh
    cases slotRole q.slot with
    | pool => exact hs
    | grd d => exact ite_mem _ hs hc
    | hdl d => exact hc
    | pnl d => exact hc
    | rln sd => exact hc
  | some a =>
    have hc := mem_renewInternal h hs hq hh
    cases slotRole q.slot with
    | pool => exact hs
    | grd d => exact ite_mem _ hs hc
    | hdl d => exact hs
    | pnl d => exact hc
    | rln sd => exact hc

include hs in
theorem mem_takeRaise (i : SlotNo) : takeRaise i s ∈ P := by
  unfold takeRaise
  cases ha : s.hold i with
  | none => exact hs
  | some a =>
    dsimp only
    split
    · exact hs
    cases hr : slotRole i with
    | pnl d =>
      refine mem_recompute_table h (h.amend s i a _ hs ha ?_ (fun hsound => ?_)) _
      · rw [startAtOnce_eq]
      · exact (hsound.raisedPress hr _ _).startAtOnce s
    | hdl d => exact mem_recompute_table h (h.amend s i a { a with level := 7 } hs ha rfl (·.raisedHandle hr)) _
    | rln sd => exact hs
    | grd d => exact hs
    | pool => exact hs

end Table

/-- The issuer of a request is one of the link issuers (R144). -/
theorem issuerOf_cases (p : Port) (s : State) :
    s.issuerOf p = .trn ∨ s.issuerOf p = .atd ∨ s.issuerOf p = .mnt := by
  cases p
  · exact issuerAt_cases .t s
  · exact issuerAt_cases .s s

theorem lowestFree_spec {s : State} {i : SlotNo} (h : s.lowestFree = some i) : isPool i = true ∧ s.hold i = none := by
  have hp := List.mem_of_find?_eq_some h
  have hn := List.find?_some h
  rw [poolSlots, List.mem_filter] at hp
  exact ⟨hp.2, Option.isNone_iff_eq_none.mp hn⟩

theorem placeAsked_scope {q : PlaceParams} {a : PlaceAsked} (h : placeAsked q = some a) : a.scope ≠ 0#8 := by
  unfold placeAsked at h
  split at h
  · split at h
    · cases h
    · rename_i hsc
      cases h
      exact hsc
  · cases h

theorem amendAsked_scope {q : AmendParams} {a : AmendAsked} (h : amendAsked q = some a) : a.scope ≠ some 0#8 := by
  rw [amendAsked_eq] at h
  split at h
  · cases h
  · rename_i hr
    cases h
    rintro hz
    unfold AmendOutOfRange at hr
    cases hm : q.marks.getLsbD 1 <;> simp_all [amendedBy]

section Operations
variable {P : Set State} (h : TableClosed P) {s : State} (hs : s ∈ P)
include h hs

/-! ### The requests at the table -/

theorem mem_examine (i : SlotNo) : examine i s ∈ P := by
  unfold examine
  cases s.hold i with
  | none => exact hs
  | some a => exact ite_mem _ (h.retire s i _ _ hs) hs

/-- R13: a placement past its checks. -/
theorem mem_placeIn {a : PlaceAsked} {x : Issuer} {i : SlotNo} (hi : s.lowestFree = some i)
    (ha : HoldSound s i (a.newHold x i s)) (hq : s.liveCount x < quotaOf x) : (placeIn a x i s).1 ∈ P := by
  refine mem_recompute_table h (mem_examine h (h.fill s i _ hs (lowestFree_spec hi).2 (ha.startAtOnce s) (fun _ => ?_))
    i) _
  rw [startAtOnce_eq]
  exact hq

theorem mem_doPlace {x : Issuer} (hx : x = .trn ∨ x = .atd ∨ x = .mnt) (q : PlaceParams) :
    (doPlace x q s).1 ∈ P := by
  unfold doPlace
  cases ha : placeAsked q with
  | none => exact hs
  | some a =>
    dsimp only
    split
    · exact hs
    split
    · exact hs
    split
    · exact hs
    split
    · exact hs
    rename_i hkind hlevel hfit hquota
    cases hf : s.lowestFree with
    | none => exact hs
    | some i =>
      have h9 := (Bool.and_eq_true_iff.mp (by simpa using hfit)).2
      exact mem_placeIn h hs hf (.placed (lowestFree_spec hf).1 hx (by simpa using hkind) (Nat.le_of_not_lt hlevel)
        (placeAsked_scope ha) h9) (Nat.lt_of_not_le hquota)

omit h in
/-- A request that names a hold, where it names one. -/
theorem mem_onLive {hd : Handle} {f : SlotNo → Hold → State × Reply}
    (hf : ∀ i a, s.hold i = some a → (f i a).1 ∈ P) : (onLive hd s f).1 ∈ P := by
  unfold onLive
  cases hr : s.resolveHandle hd with
  | live i a => exact hf i a (hold_of_live hr)
  | retired r => exact hs
  | stale => exact hs

/-- R16: an amendment past its checks. -/
theorem mem_amendIn {a : AmendAsked} {i : SlotNo} {b : Hold} (hb : s.hold i = some b)
    (hsound : HoldSound s i b → HoldSound s i (a.applied b)) : amendIn a i b s ∈ P := by
  refine mem_recompute_table h (mem_examine h (h.amend s i b _ hs hb ?_ (fun hold => ?_)) i) _
  · rw [startAtOnce_eq]
    split <;> rfl
  · split
    · exact (hsound hold).startAtOnce s
    · exact hsound hold

theorem mem_doAmend {x : Issuer} (hx : x = .trn ∨ x = .atd ∨ x = .mnt) (q : AmendParams) :
    (doAmend x q s).1 ∈ P := by
  unfold doAmend
  cases ha : amendAsked q with
  | none => exact hs
  | some a =>
    refine mem_onLive hs (fun i b hb => ?_)
    dsimp only
    split
    · exact hs
    split
    · exact hs
    split
    · exact hs
    rename_i hissuer hlevel hfit
    have hix : b.issuer = x := not_not.mp hissuer
    have h9 := (Bool.and_eq_true_iff.mp (by simpa using hfit)).2
    exact mem_amendIn h hs hb (fun hold => hold.amended (hix ▸ hx) (hix ▸ Nat.le_of_not_lt hlevel) (amendAsked_scope ha)
      h9)

theorem mem_doRenew (x : Issuer) (hd : Handle) (l : Half) : (doRenew x hd l s).1 ∈ P := by
  unfold doRenew
  cases lifetimeOfHalf l with
  | none => exact hs
  | some n =>
    refine mem_onLive hs (fun i b hb => ?_)
    split
    · exact hs
    · exact mem_recompute_table h (h.amend s i b { b with lifetime := n } hs hb rfl (·.renewed n)) _

theorem mem_doRetire (x : Issuer) (hd : Handle) : (doRetire x hd s).1 ∈ P := by
  refine mem_onLive hs (fun i b hb => ?_)
  split
  · exact hs
  split
  · exact hs
  · exact mem_tableRetire h hs _ _ _

theorem mem_doWithdraw (x : Issuer) (k : Byte) : (doWithdraw x k s).1 ∈ P := by
  unfold doWithdraw
  cases filterOf kindOfByte k with
  | none => exact hs
  | some o => exact mem_tableRetire h hs _ _ _

theorem mem_doSurvey (a x k : Byte) : (doSurvey a x k s).1 ∈ P := by
  unfold doSurvey
  split
  · split
    · exact hs
    · exact mem_off h hs rfl rfl rfl rfl
  · exact hs

/-! ### The requests at the doorways, the panels and the Notice Unit -/

theorem mem_doClearObstruction (sc : DoorSet) : (doClearObstruction sc s).1 ∈ P := by
  unfold doClearObstruction
  split
  · exact hs
  · dsimp only
    refine mem_foldl (P := P) (fun t d ht => ?_) doors hs
    exact ite_mem _ (mem_atChannel (channelClosed h d) (mem_clearDoor (channelClosed h d) ht)) ht

omit hs in
theorem mem_clearFaultDoor (d : Door) {x : State × DoorSet × DoorSet} (hx : x.1 ∈ P) : (clearFaultDoor d x).1 ∈ P := by
  unfold clearFaultDoor
  cases clearOutcome x.1 d with
  | cleared => exact mem_atChannel (channelClosed h d) (mem_clearFaultAt (channelClosed h d) hx)
  | persists => exact hx
  | notFaulted => exact hx

theorem mem_doClearFault (sc : DoorSet) : (doClearFault sc s).1 ∈ P := by
  unfold doClearFault
  split
  · exact hs
  have hfold : ∀ (l : List Door) (x : State × DoorSet × DoorSet), x.1 ∈ P →
      (l.foldl (fun x d => if has sc d then clearFaultDoor d x else x) x).1 ∈ P := by
    intro l
    induction l with
    | nil => exact fun x hx => hx
    | cons d l ih =>
      intro x hx
      refine ih _ ?_
      dsimp only
      split
      · exact mem_clearFaultDoor h d hx
      · exact hx
  exact hfold doors _ hs

theorem mem_panelTo (sd : Side) (on : Bool) : panelTo sd on s ∈ P := by
  have hp : ∀ b, s.setPanel sd b ∈ P := fun b => by cases sd <;> exact mem_off h hs rfl rfl rfl rfl
  exact ite_mem _ (hp true) (mem_send h.links (hp false) nofun)

theorem mem_doPanel (side action : Byte) : (doPanel side action s).1 ∈ P := by
  unfold doPanel
  split
  · exact mem_off h (mem_panelTo h hs _ _) rfl rfl rfl rfl
  · exact hs

theorem mem_doDoorwayReport (sc : DoorSet) : (doDoorwayReport sc s).1 ∈ P := by
  unfold doDoorwayReport
  split
  · exact hs
  · exact mem_off h hs rfl rfl rfl rfl

theorem mem_doCollectNotices (p : Port) : (doCollectNotices p s).1 ∈ P := by
  have h1 : s.clearMarks (markedSlots s p) ∈ P := mem_foldl (fun s i hs => h.unmark s i hs) _ hs
  unfold doCollectNotices
  exact mem_modPort h.links h1 p (fun x => { x with kinds := 0#8, standing := 0#8, fault := 0#8, egress := 0#8 })

theorem mem_doNoticeMask (p : Port) (m : KindSet) : (doNoticeMask p m s).1 ∈ P :=
  mem_modPort h.links hs p (fun x => { x with mask := m })

/-! ### The requests at the configuration -/

omit h in
theorem mem_doConfigRead (offset : Half) (count : Byte) : (doConfigRead offset count s).1 ∈ P := by
  unfold doConfigRead
  split
  · exact hs
  · exact hs

theorem mem_applyFitted (was : Image) (d : Door) : applyFitted was s d ∈ P := by
  unfold applyFitted
  split
  · exact hs
  have h1 : atChannel d (fun s => s.modChan d (fun c =>
      { c with state := if s.cfg.fitted d then .unreferenced else .unfitted })) s ∈ P :=
    mem_atChannel (channelClosed h d) (mem_modChan (channelClosed h d) hs _)
  exact ite_mem _ (mem_off h h1 rfl rfl rfl rfl) h1

theorem mem_writeConfig (offset : Nat) (data : List Byte) : writeConfig offset data s ∈ P := by
  have h1 : { s with cfg := s.cfg.patch offset data } ∈ P := mem_off h hs rfl rfl rfl rfl
  have h2 := mem_foldl (fun u d hu => mem_applyFitted h hu s.cfg d) doors h1
  have h3 := mem_foldl (fun u c hu => mem_applyClass h.links hu s.cfg c)
    [LineClass.release, .panel, .edge, .switch, .drive] h2
  exact mem_applySup h.links (mem_applySup h.links h3 .t) .s

theorem mem_doConfigWrite (offset : Half) (data : List Byte) : (doConfigWrite offset data s).1 ∈ P := by
  unfold doConfigWrite
  split
  · split
    · exact hs
    · exact mem_writeConfig h hs _ _
  · exact hs

theorem mem_enterRun : enterRun s ∈ P := mem_sendAll h.links (fun q hq => by simp at hq) (h.run s hs)

theorem mem_doStartRun : (doStartRun s).1 ∈ P := by
  unfold doStartRun
  split
  · exact hs
  · exact mem_enterRun h hs

/-! ### Execution and the link (Chapters 8 and 9) -/

/-- R147: a request carried out. -/
theorem mem_perform (k : RequestKind) (p : Port) (b : List Byte) : (perform k p (s.issuerOf p) b s).1 ∈ P := by
  have hx := issuerOf_cases p s
  cases k with
  | presence => exact hs
  | place => exact mem_doPlace h hs hx _
  | amend => exact mem_doAmend h hs hx _
  | renew => exact mem_doRenew h hs _ _ _
  | retire => exact mem_doRetire h hs _ _
  | withdraw => exact mem_doWithdraw h hs _ _
  | lookup => exact mem_off h hs rfl rfl rfl rfl
  | survey => exact mem_doSurvey h hs _ _ _
  | doorwayReport => exact mem_doDoorwayReport h hs _
  | carReport => exact mem_off h hs rfl rfl rfl rfl
  | clearObstruction => exact mem_doClearObstruction h hs _
  | clearFault => exact mem_doClearFault h hs _
  | panel => exact mem_doPanel h hs _ _
  | collectNotices => exact mem_doCollectNotices h hs p
  | noticeMask => exact mem_doNoticeMask h hs p _
  | configRead => exact mem_doConfigRead hs _ _
  | configWrite => exact mem_doConfigWrite h hs _ _
  | configStore => exact mem_off h hs rfl rfl rfl rfl
  | startRun => exact mem_doStartRun h hs
  | restart => exact hs

theorem mem_checked (p : Port) (kind : Byte) (b : List Byte) : (checked p kind b s).1 ∈ P := by
  unfold checked
  split
  · exact hs
  split
  · exact hs
  split
  · exact hs
  split
  · exact hs
  · exact mem_perform h hs _ p b

theorem mem_settleLoss (p : Port) : settleLoss p s ∈ P :=
  ite_mem _ (mem_tableRetire h (mem_sent h.links hs List.filter_sublist.subset) _ _ _) hs

theorem mem_execute (p : Port) (m : Message) : execute p m s ∈ P :=
  ite_mem _ (mem_formAnswer h.links hs ..) (mem_reply h.links p _ _ (mem_checked h (mem_settleLoss h hs p) p _ _))

omit hs in
/-- P is closed under the execution of messages. -/
theorem TableClosed.execute : ∀ s p m, s ∈ P → execute p m s ∈ P := fun _ p m hs => mem_execute h hs p m

/-! ### The held part (R180) -/

theorem mem_holdPart : holdPart s ∈ P := by
  refine h.off s _ hs ?_
  unfold holdPart cutStart cutStore
  split <;> split <;> exact ⟨rfl, rfl, rfl, List.nil_subset _⟩

end Operations

end Sys2Proof.Machine
end

section
/-! PROOF. Every step keeps the table sound and the quotas (R1, R3, R6, R9, R10, R11). -/

namespace Sys2Proof.Machine

open Claims Safety

section Dispatch
variable {P : Set State} (h : TableClosed P) {s t : State} (hs : s ∈ P)
include h hs

/-- A timer of a channel or guard section. -/
theorem mem_act_inRun {d : Door} {f : State → State} (hf : f s ∈ P) (ht : act s (inRun d f) = .next t) : t ∈ P :=
  mem_act h.links (fun hs => mem_inRun h hs hf) hs ht

/-- An event of the lines at a channel or guard section. -/
theorem mem_actSent_inRun {c : Instr} {d : Door} {f : State → State} (hf : ∀ u, u ∈ P → f u ∈ P)
    (ht : actSent s c (inRun d f) = .next t) : t ∈ P :=
  mem_actSent h.links (fun u _ hu => mem_inRun h hu (hf u hu)) hs ht

theorem mem_execEncoderStep {d : Door} {dir : Dir} (ht : execEncoderStep d dir s = .next t) : t ∈ P := by
  have h1 : s.modChan d (·.turnEncoder dir) ∈ P := mem_modChan (channelClosed h d) hs _
  cases ht
  exact ite_mem _ (mem_settle h.links (mem_takeStep (channelClosed h d) h1 dir)) h1

theorem mem_execIllegalTransition {d : Door} (ht : execIllegalTransition d s = .next t) : t ∈ P := by
  have h1 : s.modChan d Channel.crossEncoder ∈ P := mem_modChan (channelClosed h d) hs _
  cases ht
  exact ite_mem _ (mem_settle h.links (mem_inRun h h1 (mem_detectCause (channelClosed h d) h1 .encoder))) h1

/-- The end of an answer, that of a RESTART apart. -/
theorem mem_execAnswerSent {p : Port} (ht : execAnswerSent p s = .next t) : t ∈ P ∨ ∃ c u, t = startPart c u := by
  unfold execAnswerSent at ht
  split at ht
  · cases ht
    exact .inr ⟨_, _, rfl⟩
  · exact .inl (mem_act h.links (fun hs => mem_takeAnswerSent h.links h.execute hs p) hs ht)

theorem mem_supply (b : Bool) : { s with supply := b } ∈ P := mem_off h hs rfl rfl rfl rfl

theorem mem_resetLine (b : Bool) : { s with resetLine := b } ∈ P := mem_off h hs rfl rfl rfl rfl

theorem mem_execPowerOn (ht : execPowerOn s = .next t) : t ∈ P ∨ ∃ c u, t = startPart c u := by
  unfold execPowerOn at ht
  cases ht
  split
  · exact .inl (mem_holdPart h (mem_supply h hs true))
  · exact .inr ⟨_, _, rfl⟩

theorem mem_execResetLineReleased (ht : execResetLineReleased s = .next t) : t ∈ P ∨ ∃ c u, t = startPart c u := by
  unfold execResetLineReleased at ht
  cases ht
  split
  · exact .inr ⟨_, _, rfl⟩
  · exact .inl (mem_resetLine h hs false)

/-- A command leaves the part in P, or starts it. What is asked of P for an internal placement is that it keep those
that are outstanding. -/
theorem mem_exec
    (hplaced : ∀ s s1 q, s ∈ P → s.takeSent (.internalPlacement q) = some s1 → s1 ∈ P → takePlacement q s1 ∈ P)
    {c : Instr} (ht : exec c s = .next t) : t ∈ P ∨ ∃ c u, t = startPart c u := by
  cases c
  case presence | place | amend | renew | retire | withdraw | lookup | survey | doorwayReport | carReport |
      clearObstruction | clearFault | panel | collectNotices | noticeMask | configRead | configWrite | configStore |
      startRun | restart => exact .inl (mem_arrive h.links h.execute hs ht)
  case storeCompletion => exact .inl (mem_act h.links (fun hs => mem_takeStoreCompletion h.links hs) hs ht)
  case messageCompletion p ch =>
    exact .inl (mem_act h.links (fun hs => mem_completeMessage h.links h.execute hs p ch) hs ht)
  case messageAbandoned p =>
    exact .inl (mem_act h.links (f := fun s => s.setRx p none) (fun hs => mem_setRx h.links hs p none) hs ht)
  case answerSent p => exact mem_execAnswerSent h hs ht
  case supervisionIntervalExpiry p => exact .inl (mem_act h.links (fun hs => mem_supIntervalEnd h.links hs p) hs ht)
  case supervisionGraceExpiry p => exact .inl (mem_act h.links (fun hs => mem_supGraceEnd h.links hs p) hs ht)
  case characterReceived p ch =>
    exact .inl (mem_act h.links (fun hs => mem_assemble h.links h.execute (mem_modPort h.links hs p _) p ch) hs ht)
  case powerOn => exact mem_execPowerOn h hs ht
  case resetLineReleased => exact mem_execResetLineReleased h hs ht
  case resetLineAsserted =>
    cases ht
    exact .inl (mem_holdPart h (mem_resetLine h hs true))
  case supplyLoss =>
    cases ht
    exact .inl (mem_holdPart h (mem_supply h hs false))
  case channelRunEntry d =>
    exact .inl (mem_actSent h.links (fun u _ hu => mem_atChannel (channelClosed h d)
      (mem_takeRunEntry (channelClosed h d) hu)) hs ht)
  case lineInputRunEntry => exact .inl (mem_actSent h.links (fun u _ hu => mem_takeLineRunEntry h.links hu) hs ht)
  case lineAcceptance l lv => exact .inl (mem_execLineAcceptance h.links hs ht)
  case lineSample c levels => exact .inl (mem_execLineSample h.links hs ht)
  case internalPlacement q => exact .inl (mem_actSent h.links (fun u hu h1 => hplaced s u q hs hu h1) hs ht)
  case raise i => exact .inl (mem_actSent h.links (fun u _ hu => mem_takeRaise h hu i) hs ht)
  case lineDroppedRetirement | panelOffRetirement | linkLost | provenEvent =>
    exact .inl (mem_actSent h.links (fun u _ hu => mem_tableRetire h hu _ _ _) hs ht)
  case expiry i => exact .inl (mem_act h.links (fun hs => mem_takeExpiry h hs i) hs ht)
  case countdownStart d => exact .inl (mem_actSent h.links (fun u _ hu => h.countdowns u d hu) hs ht)
  case channelEntryAtTable d e => exact .inl (mem_actSent h.links (fun u _ hu => mem_takeChannelEntry h hu d e) hs ht)
  case encoderStep d dir => exact .inl (mem_execEncoderStep h hs ht)
  case illegalTransition d => exact .inl (mem_execIllegalTransition h hs ht)
  case clsAcceptedAtChannel d lv =>
    exact .inl (mem_actSent_inRun h hs (fun u hu => ite_mem _ (mem_clsMade (channelClosed h d) hu)
      (mem_clsBroken (channelClosed h d) hu)) ht)
  case lksAcceptedAtChannel d lv =>
    exact .inl (mem_actSent_inRun h hs (fun u hu => ite_mem _ (mem_lksMade (channelClosed h d) hu)
      (mem_lksBroken (channelClosed h d) hu)) ht)
  case bfltAcceptedAtChannel d lv =>
    exact .inl (mem_actSent_inRun h hs (fun u hu => ite_mem _ (mem_detectCause (channelClosed h d) hu .bridge) hu) ht)
  case edgeAcceptedAtGuard d lv =>
    exact .inl (mem_actSent_inRun h hs (fun u hu => ite_mem _ (mem_edgeAsserted (channelClosed h d) hu) hu) ht)
  case frcAcceptedAtGuard d lv =>
    exact .inl (mem_actSent_inRun h hs (fun u hu => ite_mem _ (mem_forceAsserted (channelClosed h d) hu) hu) ht)
  case stallIntervalExpiry d => exact .inl (mem_act_inRun h hs (mem_stallIntervalEnd (channelClosed h d) hs) ht)
  case stallGraceExpiry d => exact .inl (mem_act_inRun h hs (mem_stallGraceEnd (channelClosed h d) hs) ht)
  case warningIntervalExpiry d => exact .inl (mem_act_inRun h hs (mem_warningEnd (channelClosed h d) hs) ht)
  case reversalPauseExpiry d => exact .inl (mem_act_inRun h hs (mem_pauseEnd (channelClosed h d) hs) ht)
  case travelTimerExpiry d => exact .inl (mem_act_inRun h hs (mem_travelEnd (channelClosed h d) hs) ht)
  case unlockWaitExpiry d => exact .inl (mem_act_inRun h hs (mem_unlockWaitEnd (channelClosed h d) hs) ht)
  case lockWaitExpiry d => exact .inl (mem_act_inRun h hs (mem_lockWaitEnd (channelClosed h d) hs) ht)
  case retryWaitExpiry d => exact .inl (mem_act_inRun h hs (mem_retryWaitEnd (channelClosed h d) hs) ht)
  case plausibilityTimerExpiry d => exact .inl (mem_act_inRun h hs (mem_plausEnd (channelClosed h d) hs) ht)
  case flashPhaseExpiry d =>
    exact .inl (mem_act h.links (f := fun s => s.modChan d (fun c => { c with lamp := c.lamp.toggle }))
      (fun hs => mem_modChan (channelClosed h d) hs _) hs ht)
  case provenFlagUpdate d sw lv => exact .inl (mem_actSent h.links (fun u _ hu => mem_takeCopies h.links hu d _) hs ht)
  case channelStateAtClu d st => exact .inl (mem_actSent h.links (fun u _ hu => mem_takeCopies h.links hu d _) hs ht)
  case zspdAtClu lv => exact .inl (mem_actSent h.links (fun u _ hu => mem_takeZspd h.links hu lv) hs ht)
  case provingTimerExpiry => exact .inl (mem_act h.links (fun hs => mem_provingEnd h.links hs) hs ht)

end Dispatch

/-! ### What is on its way to the table -/

theorem sentOk_iff (s : State) :
    sentOk s = true ↔ ∀ q, .internalPlacement q ∈ s.sent → placementShape q = true := by
  rw [sentOk, List.all_eq_true]
  constructor
  · exact fun h q hq => h _ hq
  · intro h e he
    split
    · exact h _ he
    · rfl

theorem sentOk_of_subset {s t : State} (h : sentOk s = true) (hs : t.sent ⊆ s.sent) : sentOk t = true :=
  (sentOk_iff t).mpr (fun q hq => (sentOk_iff s).mp h q (hs hq))

theorem sentOk_send {s : State} {e : Instr} (h : sentOk s = true)
    (he : ∀ q, e = .internalPlacement q → placementShape q = true) : sentOk (s.send e) = true := by
  refine (sentOk_iff _).mpr (fun q hq => ?_)
  rcases List.mem_append.mp hq with hq | hq
  · exact (sentOk_iff s).mp h q hq
  · exact he q (List.mem_singleton.mp hq).symm

/-- R14: an internal placement that is outstanding has the shape of its slot. -/
theorem placementShape_of_taken {s s1 : State} {q : Placement} (h : sentOk s = true)
    (ht : s.takeSent (.internalPlacement q) = some s1) : placementShape q = true := by
  obtain ⟨_, hr, _⟩ := State.takeSent_eq ht
  exact (sentOk_iff s).mp h q (mem_of_takeFirst hr)

/-! ### The slots of a sound table -/

theorem HoldSound.congr {s t : State} {i : SlotNo} {a : Hold} (h : HoldSound s i a) (he : t.epoch = s.epoch)
    (hg : (t.slot i).generation = (s.slot i).generation) : HoldSound t i a :=
  { h with handle := by rw [he, hg]; exact h.handle }

/-- R1, R3: one slot, clause by clause. -/
theorem slotOk_iff (s : State) (i : SlotNo) : slotOk s i = true ↔
    (∀ a, s.hold i = some a → HoldSound s i a ∧ (s.slot i).lastReason = none ∧ (s.slot i).mark = none) ∧
    (s.hold i = none → (s.slot i).mark ≠ none → isPool i = true ∧ (s.slot i).lastReason ≠ none) := by
  unfold slotOk State.hold
  cases (s.slot i).hold with
  | none =>
    cases (s.slot i).mark <;> cases (s.slot i).lastReason <;> simp
  | some a => simp [holdOk_iff, and_assoc]

/-- A slot and the epoch say whether the slot is sound. -/
theorem slotOk_congr {s t : State} {i : SlotNo} (h : t.slot i = s.slot i) (he : t.epoch = s.epoch) :
    slotOk t i = slotOk s i := by
  simp only [slotOk, holdOk, h, he]

/-- An event that writes slots alone keeps the table sound where it leaves the slots that it writes sound. -/
theorem tableOk_of_slots {s t : State} (h : TableOk s) (hn : t.noSlots = s.noSlots)
    (ht : ∀ i, t.slot i = s.slot i ∨ slotOk t i = true) : TableOk t := by
  have he : t.epoch = s.epoch := (congrArg State.epoch hn :)
  have hsent : t.sent = s.sent := (congrArg State.sent hn :)
  refine ⟨fun i => ?_, sentOk_of_subset h.2 (hsent ▸ List.Subset.refl _)⟩
  rcases ht i with hi | hi
  · rw [slotOk_congr hi he]
    exact h.1 i
  · exact hi

/-- One slot written. -/
theorem tableOk_setSlot {s : State} {i : SlotNo} {x : Slot} (h : TableOk s)
    (hx : slotOk (s.setSlot i x) i = true) : TableOk (s.setSlot i x) := by
  refine tableOk_of_slots h rfl (fun j => ?_)
  by_cases hj : j = i
  · rw [hj]
    exact .inr hx
  · exact .inl (State.slot_setSlot_ne s i j x hj)

/-- A slot written with a live hold. -/
theorem slotOk_setSlot_live {s : State} {i : SlotNo} {x : Slot} {a : Hold} (hx : x.hold = some a)
    (ha : HoldSound s i a) (hg : x.generation = (s.slot i).generation) (hr : x.lastReason = none) (hm : x.mark = none) :
    slotOk (s.setSlot i x) i = true := by
  rw [slotOk_iff, State.hold, State.slot_setSlot, hx]
  refine ⟨fun b hb => ?_, nofun⟩
  cases hb
  exact ⟨ha.congr rfl (by rw [State.slot_setSlot, hg]), hr, hm⟩

theorem tableOk_retireSlot {s : State} (h : TableOk s) (i : SlotNo) (r : Reason) (own : Bool) :
    TableOk (s.retireSlot i r own) := by
  refine tableOk_of_slots h (State.noSlots_retireSlot s i r own) (fun j => ?_)
  rw [State.slot_retireSlot]
  by_cases hj : j = i
  · rw [if_pos hj, hj]
    cases ha : s.hold i with
    | none => exact .inl rfl
    | some a =>
      right
      obtain ⟨_, _, hm⟩ := ((slotOk_iff s i).mp (h.1 i)).1 a ha
      rw [slotOk_iff, State.hold, State.slot_retireSlot, if_pos rfl, ha]
      refine ⟨nofun, fun _ hmark => ⟨?_, nofun⟩⟩
      by_contra hp
      simp [Slot.retired, hp, hm] at hmark
  · rw [if_neg hj]
    exact .inl rfl

theorem tableOk_startCountdowns {s : State} (h : TableOk s) (d : Door) : TableOk (s.startCountdowns d) := by
  refine tableOk_of_slots h rfl (fun j => ?_)
  have hj := State.slot_startCountdowns s d j
  unfold Slot.startCountdown at hj
  cases ha : (s.slot j).hold with
  | none =>
    rw [ha] at hj
    exact .inl hj
  | some a =>
    rw [ha] at hj
    dsimp only at hj
    split at hj
    · right
      obtain ⟨hs, hr, hm⟩ := ((slotOk_iff s j).mp (h.1 j)).1 a ha
      rw [slotOk_iff, State.hold, hj]
      refine ⟨fun b hb => ?_, nofun⟩
      cases hb
      exact ⟨hs.run.congr rfl (by rw [hj]), hr, hm⟩
    · exact .inl hj

/-- The states with a sound table are closed under what commands do to it. -/
theorem tableOk_closed : TableClosed {s | TableOk s} where
  off s t hs ht := ⟨fun i => by
    rw [slotOk_congr (by rw [State.slot, State.slot, ht.slots]) ht.epoch]; exact hs.1 i, sentOk_of_subset hs.2 ht.sent⟩
  run s hs := hs
  send s e hs he := ⟨hs.1, sentOk_send hs.2 he⟩
  retire s i r own hs := tableOk_retireSlot hs i r own
  countdowns s d hs := tableOk_startCountdowns hs d
  unmark s i hs := by
    refine tableOk_setSlot hs ((slotOk_iff _ i).mpr ?_)
    rw [State.hold, State.slot_setSlot]
    refine ⟨fun a ha => ?_, fun _ hm => absurd rfl hm⟩
    obtain ⟨hsound, hr, _⟩ := ((slotOk_iff s i).mp (hs.1 i)).1 a ha
    exact ⟨hsound.congr rfl (by rw [State.slot_setSlot]), hr, rfl⟩
  amend s i a b hs ha _ hab := by
    obtain ⟨hsound, hr, hm⟩ := ((slotOk_iff s i).mp (hs.1 i)).1 a ha
    exact tableOk_setSlot hs (slotOk_setSlot_live rfl (hab hsound) rfl hr hm)
  fill s i a hs _ ha _ := tableOk_setSlot hs (slotOk_setSlot_live rfl ha rfl rfl rfl)

/-- R181: a start empties the table. -/
theorem slots_startPart (c : ResetCause) (s : State) : (startPart c s).slots = .replicate 64 .start := by
  unfold startPart autoRun enterRun State.sendAll
  split <;> rfl

theorem slot_startPart (c : ResetCause) (s : State) (i : SlotNo) : (startPart c s).slot i = .start := by
  simp [State.slot, slots_startPart]

theorem sentOk_startPart (c : ResetCause) (s : State) : sentOk (startPart c s) = true := by
  refine (sentOk_iff _).mpr (fun q hq => ?_)
  unfold startPart autoRun enterRun State.sendAll at hq
  split at hq <;> simp [startBlocks] at hq

theorem tableOk_startPart (c : ResetCause) (s : State) : TableOk (startPart c s) :=
  ⟨fun i => by rw [slotOk, slot_startPart]; rfl, sentOk_startPart c s⟩

theorem kept_tableOk : Kept TableOk := by
  refine kept_of_exec (fun s l h => h.pending l) (fun c s t hs ht => ?_)
  rcases mem_exec tableOk_closed hs (fun s s1 q hs hq h1 =>
    mem_takePlacement tableOk_closed h1 (placementShape_of_taken hs.2 hq)) ht with h | ⟨c, u, rfl⟩
  · exact h
  · exact tableOk_startPart c u

/-! ### The quotas (R11) -/

/-- The slot holds a live hold of this issuer. -/
def Slot.issuedBy (y : Issuer) (x : Slot) : Bool := x.hold.any (fun a => a.issuer == y)

theorem liveCount_eq (s : State) (y : Issuer) : s.liveCount y = s.slots.toList.countP (Slot.issuedBy y) := by
  refine List.countP_congr (fun x _ => ?_)
  rw [Slot.issuedBy]
  cases x.hold <;> rfl

/-- A slot written changes the live holds of an issuer by its own. -/
theorem liveCount_setSlot (s : State) (i : SlotNo) (x : Slot) (y : Issuer) :
    (s.setSlot i x).liveCount y + (if (s.slot i).issuedBy y = true then 1 else 0) =
      s.liveCount y + if x.issuedBy y = true then 1 else 0 := by
  have hl : i.val < s.slots.toList.length := by simp
  have hget : s.slots.toList[i.val] = s.slot i := by simp [State.slot]
  have hset : (s.setSlot i x).slots.toList = s.slots.toList.set i.val x :=
    Vector.toList_set i.isLt
  have hpos : (if (s.slot i).issuedBy y = true then 1 else 0) ≤ s.slots.toList.countP (Slot.issuedBy y) := by
    split
    · rename_i hi
      exact List.countP_pos_iff.mpr ⟨_, List.getElem_mem hl, hget ▸ hi⟩
    · exact Nat.zero_le _
  rw [liveCount_eq, liveCount_eq, hset, List.countP_set hl, hget]
  omega

theorem liveCount_setSlot_le {s : State} {i : SlotNo} {x : Slot} {y : Issuer}
    (h : x.issuedBy y = true → (s.slot i).issuedBy y = true) : (s.setSlot i x).liveCount y ≤ s.liveCount y := by
  have hc := liveCount_setSlot s i x y
  cases hx : x.issuedBy y
  · rw [hx] at hc
    split at hc <;> simp at hc <;> omega
  · rw [hx, h hx] at hc
    simp at hc
    omega

/-- R11: the quotas are those of the link issuers. -/
theorem quotasOk_iff (s : State) : QuotasOk s ↔
    sentOk s = true ∧ ∀ y, y = .trn ∨ y = .atd ∨ y = .mnt → s.liveCount y ≤ quotaOf y := by
  refine and_congr_right (fun _ => ⟨?_, fun h =>
    ⟨h .trn (.inl rfl), h .atd (.inr (.inl rfl)), h .mnt (.inr (.inr rfl))⟩⟩)
  rintro ⟨h1, h2, h3⟩ y (rfl | rfl | rfl)
  · exact h1
  · exact h2
  · exact h3

/-- Where no issuer has more live holds than before, and nothing new is outstanding. -/
theorem quotasOk_of_le {s t : State} (h : QuotasOk s) (hs : t.sent ⊆ s.sent)
    (hl : ∀ y, t.liveCount y ≤ s.liveCount y) : QuotasOk t := by
  rw [quotasOk_iff] at h ⊢
  exact ⟨sentOk_of_subset h.1 hs, fun y hy => (hl y).trans (h.2 y hy)⟩

theorem liveCount_of_slots {s t : State} (h : t.slots = s.slots) (y : Issuer) : t.liveCount y = s.liveCount y := by
  rw [State.liveCount, State.liveCount, h]

theorem liveCount_retireSlot_le (s : State) (i : SlotNo) (r : Reason) (own : Bool) (y : Issuer) :
    (s.retireSlot i r own).liveCount y ≤ s.liveCount y := by
  unfold State.retireSlot
  cases s.hold i with
  | none => exact Nat.le_refl _
  | some a =>
    dsimp only
    split
    · rw [liveCount_of_slots (State.raiseOn_slots _ _ _)]
      exact liveCount_setSlot_le nofun
    · exact liveCount_setSlot_le nofun

/-- R24: a countdown start changes no issuer. -/
theorem liveCount_startCountdowns (s : State) (d : Door) (y : Issuer) :
    (s.startCountdowns d).liveCount y = s.liveCount y := by
  rw [liveCount_eq, liveCount_eq, State.startCountdowns, Vector.toList_map, List.countP_map]
  refine List.countP_congr (fun x _ => ?_)
  rw [Function.comp_apply, Slot.startCountdown, Slot.issuedBy, Slot.issuedBy]
  cases hx : x.hold with
  | none => simp [hx]
  | some a => dsimp only; split <;> simp [hx]

/-- A hold put into a free slot is one more of its issuer. -/
theorem liveCount_fillSlot {s : State} {i : SlotNo} {a : Hold} (hi : s.hold i = none) (y : Issuer) :
    (s.fillSlot i a).liveCount y = s.liveCount y + if a.issuer = y then 1 else 0 := by
  have hc := liveCount_setSlot s i { s.slot i with hold := some a, lastReason := none, mark := none } y
  have hfree : (s.slot i).issuedBy y = false := by
    have hi : (s.slot i).hold = none := hi
    rw [Slot.issuedBy, hi]
    rfl
  rw [hfree] at hc
  rw [State.fillSlot]
  simpa [Slot.issuedBy] using hc

/-- The states within the quotas are closed under what commands do to the table. -/
theorem quotasOk_closed : TableClosed {s | QuotasOk s} where
  off s t hs ht := quotasOk_of_le hs ht.sent (fun y => (liveCount_of_slots ht.slots y).le)
  run s hs := hs
  send s e hs he := ⟨sentOk_send hs.1 he, hs.2⟩
  retire s i r own hs := quotasOk_of_le hs
    ((congrArg State.sent (State.noSlots_retireSlot s i r own) :) ▸ List.Subset.refl _)
    (liveCount_retireSlot_le s i r own)
  countdowns s d hs := quotasOk_of_le hs (List.Subset.refl _) (fun y => (liveCount_startCountdowns s d y).le)
  unmark s i hs := quotasOk_of_le hs (List.Subset.refl _) (fun y => liveCount_setSlot_le id)
  amend s i a b hs ha hab _ := by
    refine quotasOk_of_le hs (List.Subset.refl _) (fun y => liveCount_setSlot_le (fun hy => ?_))
    have ha : (s.slot i).hold = some a := ha
    simpa [Slot.issuedBy, ha, hab] using hy
  fill s i a hs hi _ hroom := by
    obtain ⟨hsent, hle⟩ := (quotasOk_iff s).mp hs
    refine (quotasOk_iff _).mpr ⟨hsent, fun y hy => ?_⟩
    rw [liveCount_fillSlot hi]
    split
    · rename_i hay
      have := hroom (hay ▸ hy)
      rw [hay] at this
      exact this
    · exact hle y hy

theorem quotasOk_startPart (c : ResetCause) (s : State) : QuotasOk (startPart c s) := by
  refine (quotasOk_iff _).mpr ⟨sentOk_startPart c s, fun y _ => ?_⟩
  have hz : (startPart c s).liveCount y = 0 := by
    rw [liveCount_eq, slots_startPart, Vector.toList_replicate, List.countP_replicate]
    rfl
  rw [hz]
  exact Nat.zero_le _

theorem kept_quotasOk : Kept QuotasOk := by
  refine kept_of_exec (fun s l h => h.pending l) (fun c s t hs ht => ?_)
  rcases mem_exec quotasOk_closed hs (fun s s1 q hs hq h1 =>
    mem_takePlacement quotasOk_closed h1 (placementShape_of_taken hs.1 hq)) ht with h | ⟨c, u, rfl⟩
  · exact h
  · exact quotasOk_startPart c u

/-- Settles O53: both clauses hold of a set of states that is closed under what commands do to the table. -/
theorem stepsKeepTheTable : Obligations.StepsKeepTheTable := ⟨kept_tableOk, kept_quotasOk⟩

end Sys2Proof.Machine
end

section
/-! PROOF. Every step keeps CONFIGURE quiet (R30, R32, R75, R79): a part in RUN stays in RUN but for a start, and in
CONFIGURE nothing is done at the table or at a doorway. -/

namespace Sys2Proof.Machine

open Claims Safety

/-! ### The mode (R161, R181) -/

/-- Nothing at the table or on its way to it writes the mode. -/
theorem mode_closed : TableClosed {s | s.mode = .run} where
  off _ _ hs ht := ht.mode.trans hs
  run _ _ := rfl
  send _ _ hs _ := hs
  retire s i r own hs := (congrArg State.mode (State.noSlots_retireSlot s i r own) :).trans hs
  countdowns _ _ hs := hs
  unmark _ _ hs := hs
  amend _ _ _ _ hs _ _ _ := hs
  fill _ _ _ hs _ _ _ := hs

theorem mode_takePlacement (q : Placement) (s : State) : (takePlacement q s).mode = s.mode := by
  have hrec : ∀ sc u, u.mode = s.mode → (recompute sc u).mode = s.mode := fun sc u hu =>
    (State.mode_of_bare (bare_recompute sc u)).trans hu
  have hc : (createInternal q s).mode = s.mode := by
    obtain ⟨v, hv, hn, _⟩ := createInternal_eq q s
    rw [hv]
    exact hrec _ v (congrArg State.mode hn :)
  have hr : ∀ a, (renewInternal q a s).mode = s.mode := fun a => hrec _ _ rfl
  unfold takePlacement
  split
  · rfl
  split
  · rfl
  · split
    · rfl
    · exact hc
  · split
    · rfl
    · exact hr _
  · exact hc
  · rfl
  · exact hc
  · exact hr _
  · exact hc
  · exact hr _

/-! ### Quiet doorways -/

/-- The channel of a doorway in CONFIGURE, fitted or not. -/
structure Channel.Quiet (fitted : Bool) (c : Channel) : Prop where
  state : c.state = if fitted then .unreferenced else .unfitted
  referenced : c.referenced = false
  drive : c.drive = .free
  solenoid : c.solenoid = false
  lamp : c.lamp = .off
  fault : c.fault = none

/-- A part in CONFIGURE, its table empty and its doorways quiet. -/
structure Calm (s : State) : Prop where
  mode : s.mode = .configure
  empty : ∀ i, s.hold i = none
  chan : ∀ d, (s.chan d).Quiet (s.fitted d)
  demand : ∀ d, s.demand d = .resting
  guard : ∀ d, s.guard d = .start

theorem configureQuiet_iff (s : State) : ConfigureQuiet s ↔ s.mode = .run ∨ Calm s := by
  constructor
  · intro h
    cases hm : s.mode
    · obtain ⟨he, hd⟩ := h hm
      refine .inr ⟨hm, he, fun d => ?_, fun d => ?_, fun d => ?_⟩ <;> obtain ⟨h1, h2, h3, h4, h5, h6, h7, h8⟩ := hd d
      · exact ⟨h1, h2, h3, h4, h5, h6⟩
      · exact h7
      · exact h8
    · exact .inl rfl
  · rintro (h | h) hm
    · rw [h] at hm
      cases hm
    · refine ⟨h.empty, fun d => ?_⟩
      obtain ⟨h1, h2, h3, h4, h5, h6⟩ := h.chan d
      exact ⟨h1, h2, h3, h4, h5, h6, h.demand d, h.guard d⟩

theorem Calm.quiet {s : State} (h : Calm s) : ConfigureQuiet s := (configureQuiet_iff s).mpr (.inr h)

theorem Calm.still {s t : State} (h : Calm s) (ht : SameBlocks s t) : Calm t := by
  have hchan : ∀ d, t.chan d = s.chan d := fun d => by rw [State.chan, State.chan, ht.chans]
  have hfit : ∀ d, t.fitted d = s.fitted d := fun d => by rw [State.fitted, State.fitted, ht.cfg]
  refine ⟨ht.mode.trans h.mode, fun i => ?_, fun d => ?_, fun d => ?_, fun d => ?_⟩
  · rw [State.hold, State.slot, ht.slots]
    exact h.empty i
  · rw [hchan, hfit]
    exact h.chan d
  · rw [State.demand, ht.demands]
    exact h.demand d
  · rw [State.guard, ht.guards]
    exact h.guard d

/-- CONFIGURE reads nothing of the lines, the ports and the Car Loop Unit, nor of what is sent. -/
theorem quiet_closed : LinksClosed {s | ConfigureQuiet s} where
  still s t hs ht := by
    rcases (configureQuiet_iff s).mp hs with hm | hc
    · exact (configureQuiet_iff t).mpr (.inl (ht.mode.trans hm))
    · exact (hc.still ht).quiet
  send _ _ hs _ := hs

/-- A channel that changes as a quiet one may. -/
theorem Calm.modChan {s : State} (h : Calm s) (d : Door) {f : Channel → Channel}
    (hf : ∀ b c, c.Quiet b → (f c).Quiet b) : Calm (s.modChan d f) := by
  refine { h with chan := fun e => ?_ }
  by_cases he : e = d
  · subst he
    rw [State.chan_modChan]
    exact hf _ _ (h.chan e)
  · rw [State.chan_modChan_ne _ _ _ _ he]
    exact h.chan e

/-! ### A start, and the held part (R180, R181) -/

theorem quiet_startPart (c : ResetCause) (s : State) : ConfigureQuiet (startPart c s) := by
  unfold startPart
  generalize loadPart c (cutStore s) = u
  unfold autoRun
  split
  · exact (configureQuiet_iff _).mpr (.inl rfl)
  refine Calm.quiet ⟨rfl, fun i => ?_, fun d => ?_, fun d => ?_, fun d => ?_⟩
  · simp [State.hold, State.slot, startBlocks, Slot.start]
  · have hc : (startBlocks u).chan d = startChannel u d := by simp [State.chan, startBlocks]
    have hf : (startBlocks u).fitted d = u.fitted d := rfl
    rw [hc, hf]
    exact ⟨rfl, rfl, rfl, rfl, rfl, rfl⟩
  · simp [State.demand, startBlocks]
  · simp [State.guard, startBlocks]

theorem Calm.holdPart {s : State} (h : Calm s) : Calm (holdPart s) := by
  have hchan : ∀ d, (Machine.holdPart s).chan d = (s.chan d).held := fun d => by
    unfold Machine.holdPart cutStart cutStore
    split <;> split <;> simp [State.chan]
  have hrest : (Machine.holdPart s).mode = s.mode ∧ (Machine.holdPart s).slots = s.slots ∧
      (Machine.holdPart s).cfg = s.cfg ∧ (Machine.holdPart s).demands = s.demands ∧
      (Machine.holdPart s).guards = s.guards := by
    unfold Machine.holdPart cutStart cutStore
    split <;> split <;> exact ⟨rfl, rfl, rfl, rfl, rfl⟩
  obtain ⟨hmode, hslots, hcfg, hdemands, hguards⟩ := hrest
  refine ⟨hmode.trans h.mode, fun i => ?_, fun d => ?_, fun d => ?_, fun d => ?_⟩
  · rw [State.hold, State.slot, hslots]
    exact h.empty i
  · obtain ⟨h1, h2, _, _, _, h6⟩ := h.chan d
    rw [hchan, State.fitted, hcfg]
    exact ⟨h1, h2, rfl, rfl, rfl, h6⟩
  · rw [State.demand, hdemands]
    exact h.demand d
  · rw [State.guard, hguards]
    exact h.guard d

/-! ### The table in CONFIGURE (R30) -/

section Calm
variable {s : State} (h : Calm s)
include h

theorem Calm.mode_ne : s.mode ≠ .run := by
  rw [h.mode]
  exact nofun

theorem Calm.retireSlots (is : List SlotNo) (r : Reason) (own : Bool) : s.retireSlots is r own = s := by
  induction is with
  | nil => rfl
  | cons i is ih =>
    have hi : s.retireSlot i r own = s := by rw [State.retireSlot, h.empty i]
    rw [State.retireSlots, List.foldl_cons, hi]
    exact ih

theorem Calm.scopeOf (is : List SlotNo) : s.scopeOf is = 0#8 := by
  refine BitVec.eq_of_getLsbD_eq (fun n hn => Bool.eq_iff_iff.mpr (iff_of_false (fun hd => ?_) (by simp)))
  obtain ⟨i, _, a, ha, _⟩ := (has_scopeOf s is ⟨n, hn⟩).mp hd
  rw [h.empty i] at ha
  cases ha

theorem Calm.tableRetire (is : List SlotNo) (r : Reason) (own : Bool) : Machine.tableRetire is r own s = s := by
  rw [Machine.tableRetire, h.retireSlots, h.scopeOf, recompute_empty]

theorem Calm.startCountdowns (d : Door) : s.startCountdowns d = s := by
  have hsl : s.slots.map (Slot.startCountdown d) = s.slots := by
    refine Vector.ext (fun n hn => ?_)
    have he : (s.slots[n]).hold = none := h.empty ⟨n, hn⟩
    rw [Vector.getElem_map, Slot.startCountdown, he]
  rw [State.startCountdowns, hsl]

theorem Calm.takeChannelEntry (d : Door) (e : EntryKind) : Machine.takeChannelEntry d e s = s := by
  rw [Machine.takeChannelEntry, h.retireSlots, h.startCountdowns, h.scopeOf, recompute_empty]

theorem Calm.takeRaise (i : SlotNo) : Machine.takeRaise i s = s := by rw [Machine.takeRaise, h.empty i]

theorem Calm.takeExpiry (i : SlotNo) : Machine.takeExpiry i s = s := by rw [Machine.takeExpiry, h.empty i]

/-! ### The doorways in CONFIGURE (R75) -/

theorem Calm.chanInRun (d : Door) : s.chanInRun d = false := by simp [State.chanInRun, h.mode]

theorem Calm.inRun (d : Door) (f : State → State) : Machine.inRun d f s = s := by
  rw [Machine.inRun, h.chanInRun d]
  rfl

theorem Calm.takeRunEntry (d : Door) : atChannel d (Machine.takeRunEntry d) s = s := by
  have hs : Machine.takeRunEntry d s = s := by
    rw [Machine.takeRunEntry, if_pos (.inl (by rw [h.chanInRun d]; rfl))]
  rw [atChannel, hs]
  exact if_pos rfl

/-- R75: a step moves the position of a fitted doorway's channel, and nothing else. -/
theorem Calm.takeStep (d : Door) (dir : Dir) : Calm (Machine.takeStep d dir s) := by
  unfold Machine.takeStep
  dsimp only
  split
  · exact h
  · rw [if_pos (by rw [h.chanInRun d]; rfl)]
    refine h.modChan d (fun b c hc => ?_)
    obtain ⟨h1, h2, h3, h4, h5, h6⟩ := hc
    cases dir <;> exact ⟨h1, h2, h3, h4, h5, h6⟩

theorem Calm.turnEncoder (d : Door) (dir : Dir) : Calm (s.modChan d (·.turnEncoder dir)) := by
  refine h.modChan d (fun b c hc => ?_)
  obtain ⟨h1, h2, h3, h4, h5, h6⟩ := hc
  unfold Channel.turnEncoder
  split <;> exact ⟨h1, h2, h3, h4, h5, h6⟩

theorem Calm.crossEncoder (d : Door) : Calm (s.modChan d Channel.crossEncoder) := by
  refine h.modChan d (fun b c hc => ?_)
  obtain ⟨h1, h2, h3, h4, h5, h6⟩ := hc
  exact ⟨h1, h2, h3, h4, h5, h6⟩

/-- R53: a lamp that is off stays off. -/
theorem Calm.flash (d : Door) : Calm (s.modChan d (fun c => { c with lamp := c.lamp.toggle })) := by
  refine h.modChan d (fun b c hc => ?_)
  obtain ⟨h1, h2, h3, h4, h5, h6⟩ := hc
  exact ⟨h1, h2, h3, h4, by rw [h5]; rfl, h6⟩

end Calm

/-! ### CONFIG_WRITE (R75, R159) -/

/-- A part in CONFIGURE while a write that changed FITTED goes through the doorways: those of the list are still to
come, and may stand as the configuration before the write had them. -/
structure HalfCalm (was : Image) (l : List Door) (s : State) : Prop where
  mode : s.mode = .configure
  empty : ∀ i, s.hold i = none
  chan : ∀ d, (s.chan d).Quiet (s.fitted d) ∨ d ∈ l ∧ (s.chan d).Quiet (was.fitted d)
  demand : ∀ d, s.demand d = .resting
  guard : ∀ d, s.guard d = .start

/-- R75: what a changed FITTED does to a doorway. -/
def fittedChannel (s : State) (d : Door) (c : Channel) : Channel :=
  { c with state := if s.cfg.fitted d then .unreferenced else .unfitted }

/-- R72: an event at a channel sends its change of state at most. -/
theorem atChannel_cases (d : Door) (f : State → State) (s : State) :
    atChannel d f s = f s ∨ ∃ e, atChannel d f s = (f s).send e := by
  unfold atChannel
  dsimp only
  split
  · exact .inl rfl
  · exact .inr ⟨_, rfl⟩

theorem applyFitted_of_changed {was : Image} {s : State} {d : Door} (hf : was.fitted d ≠ s.cfg.fitted d) :
    ∃ u, applyFitted was s d = u ∧ u.mode = s.mode ∧ u.cfg = s.cfg ∧ u.slots = s.slots ∧ u.demands = s.demands ∧
      u.guards = s.guards ∧ u.chans = (s.modChan d (fittedChannel s d)).chans := by
  have heq : ∃ x, applyFitted was s d = if s.cfg.fitted d then
      (atChannel d (fun s => s.modChan d (fittedChannel s d)) s).setCluDoor d x
    else atChannel d (fun s => s.modChan d (fittedChannel s d)) s := ⟨_, if_neg hf⟩
  obtain ⟨x, heq⟩ := heq
  refine ⟨_, heq, ?_⟩
  rcases atChannel_cases d (fun s => s.modChan d (fittedChannel s d)) s with he | ⟨e, he⟩ <;> rw [he] <;>
    cases s.cfg.fitted d <;> exact ⟨rfl, rfl, rfl, rfl, rfl, rfl⟩

theorem HalfCalm.applyFitted {was : Image} {s : State} {d : Door} {l : List Door} (h : HalfCalm was (d :: l) s) :
    HalfCalm was l (applyFitted was s d) := by
  by_cases hf : was.fitted d = s.cfg.fitted d
  · have hsame : Machine.applyFitted was s d = s := if_pos hf
    rw [hsame]
    refine { h with chan := fun e => ?_ }
    rcases h.chan e with hq | ⟨hm, hq⟩
    · exact .inl hq
    · rcases List.mem_cons.mp hm with rfl | hm
      · exact .inl (by rw [State.fitted, ← hf]; exact hq)
      · exact .inr ⟨hm, hq⟩
  · obtain ⟨u, hu, hmode, hcfg, hslots, hdemands, hguards, hchans⟩ := applyFitted_of_changed hf
    rw [hu]
    have hchan : ∀ e, u.chan e = (s.modChan d (fittedChannel s d)).chan e := fun e => by
      rw [State.chan, State.chan, hchans]
    have hfit : ∀ e, u.fitted e = s.fitted e := fun e => by rw [State.fitted, State.fitted, hcfg]
    refine ⟨hmode.trans h.mode, fun i => ?_, fun e => ?_, fun e => ?_, fun e => ?_⟩
    · rw [State.hold, State.slot, hslots]
      exact h.empty i
    · rw [hchan, hfit]
      by_cases he : e = d
      · subst he
        rw [State.chan_modChan]
        refine .inl ?_
        obtain ⟨_, h2, h3, h4, h5, h6⟩ | ⟨_, _, h2, h3, h4, h5, h6⟩ := h.chan e <;>
          exact ⟨rfl, h2, h3, h4, h5, h6⟩
      · rw [State.chan_modChan_ne _ _ _ _ he]
        exact (h.chan e).imp_right (fun hm => ⟨(List.mem_cons.mp hm.1).resolve_left he, hm.2⟩)
    · rw [State.demand, hdemands]
      exact h.demand e
    · rw [State.guard, hguards]
      exact h.guard e

theorem HalfCalm.foldl {was : Image} (l : List Door) :
    ∀ {s : State}, HalfCalm was l s → Calm (l.foldl (Machine.applyFitted was) s) := by
  induction l with
  | nil =>
    intro s h
    exact ⟨h.mode, h.empty, fun d => (h.chan d).resolve_right (fun hm => nomatch hm.1), h.demand, h.guard⟩
  | cons d l ih => exact fun h => ih h.applyFitted

/-- R159: a write leaves every doorway as its new FITTED has it. -/
theorem quiet_writeConfig {s : State} (h : Calm s) (offset : Nat) (data : List Byte) :
    ConfigureQuiet (writeConfig offset data s) := by
  have h1 : HalfCalm s.cfg doors { s with cfg := s.cfg.patch offset data } :=
    ⟨h.mode, h.empty, fun d => .inr ⟨mem_doors d, h.chan d⟩, h.demand, h.guard⟩
  have h2 : doors.foldl (applyFitted s.cfg) { s with cfg := s.cfg.patch offset data } ∈ {s | ConfigureQuiet s} :=
    (HalfCalm.foldl doors h1).quiet
  have h3 := mem_foldl (fun u c hu => mem_applyClass quiet_closed hu s.cfg c)
    [LineClass.release, .panel, .edge, .switch, .drive] h2
  exact mem_applySup quiet_closed (mem_applySup quiet_closed h3 .t) .s

/-! ### Requests in CONFIGURE (R145) -/

theorem Calm.clearMarks {s : State} (h : Calm s) (is : List SlotNo) : Calm (s.clearMarks is) := by
  have hhold : ∀ i, (s.clearMarks is).hold i = none := fun i => by
    rw [State.hold, slot_clearMarks]
    split
    · exact h.empty i
    · exact h.empty i
  obtain ⟨sl, hsl⟩ := clearMarks_eq is s
  rw [hsl] at hhold ⊢
  exact { h with empty := hhold }

/-- R145 check 3: of the requests that CONFIGURE admits, START_RUN leaves it, and none disturbs it. -/
theorem quiet_perform {s : State} (h : Calm s) {k : RequestKind} (hk : k.allowedIn .configure = true) (p : Port)
    (x : Issuer) (b : List Byte) : ConfigureQuiet (perform k p x b s).1 := by
  have hsame : ∀ n, Calm { s with free := n } := fun n => { h with }
  cases k
  case place | amend | renew | retire | withdraw | clearObstruction | clearFault | panel => cases hk
  case presence | restart => exact h.quiet
  case lookup | carReport => exact (hsame _).quiet
  case survey =>
    show ConfigureQuiet (doSurvey _ _ _ s).1
    unfold doSurvey
    split
    · split
      · exact h.quiet
      · exact (hsame _).quiet
    · exact h.quiet
  case doorwayReport =>
    show ConfigureQuiet (doDoorwayReport _ s).1
    unfold doDoorwayReport
    split
    · exact h.quiet
    · exact (hsame _).quiet
  case collectNotices => exact mem_modPort quiet_closed (h.clearMarks (markedSlots s p)).quiet p _
  case noticeMask => exact mem_modPort quiet_closed h.quiet p (fun x => { x with mask := paramAt b 0 })
  case configRead => exact mem_doConfigRead (P := {s | ConfigureQuiet s}) h.quiet _ _
  case configWrite =>
    show ConfigureQuiet (doConfigWrite _ _ s).1
    unfold doConfigWrite
    split
    · split
      · exact h.quiet
      · exact quiet_writeConfig h _ _
    · exact h.quiet
  case configStore => exact Calm.quiet { h with }
  case startRun =>
    show ConfigureQuiet (doStartRun s).1
    unfold doStartRun
    split
    · exact h.quiet
    · exact (configureQuiet_iff _).mpr (.inl rfl)

theorem quiet_checked {s : State} (h : Calm s) (p : Port) (kind : Byte) (b : List Byte) :
    ConfigureQuiet (checked p kind b s).1 := by
  unfold checked
  split
  · exact h.quiet
  split
  · exact h.quiet
  split
  · exact h.quiet
  split
  · exact h.quiet
  · rename_i hmode _
    refine quiet_perform h ?_ p _ b
    rw [← h.mode]
    simpa using hmode

/-- R147: a message executed in either mode. -/
theorem quiet_execute (s : State) (p : Port) (m : Message) (hs : ConfigureQuiet s) :
    ConfigureQuiet (execute p m s) := by
  rcases (configureQuiet_iff s).mp hs with hr | hc
  · exact (configureQuiet_iff _).mpr (.inl (mem_execute mode_closed hr p m))
  · have hdrop : Calm { s with sent := s.sent.filter (fun e => e != .linkLost p) } := { hc with }
    have hloss : Calm (settleLoss p s) := by
      unfold settleLoss takeLinkLost
      split
      · rw [hdrop.tableRetire]
        exact hdrop
      · exact hc
    exact ite_mem (P := {s | ConfigureQuiet s}) _ (mem_formAnswer quiet_closed hs p _ _ _ _)
      (mem_reply quiet_closed p _ _ (quiet_checked hloss p _ _))

/-! ### Every command -/

/-- An event that a part in CONFIGURE takes without effect. -/
theorem quiet_actSent {s t : State} {c : Instr} {f : State → State} (h : Calm s) (hf : ∀ u, Calm u → f u = u)
    (ht : actSent s c f = .next t) : ConfigureQuiet t := by
  refine mem_actSent quiet_closed (fun u hu _ => ?_) h.quiet ht
  obtain ⟨l, _, rfl⟩ := State.takeSent_eq hu
  have hu : Calm { s with sent := l } := { h with }
  rw [hf _ hu]
  exact hu.quiet

/-- A timer that a part in CONFIGURE takes without effect. -/
theorem quiet_act {s t : State} {f : State → State} (h : Calm s) (hf : f s = s) (ht : act s f = .next t) :
    ConfigureQuiet t := mem_act quiet_closed (fun hs => by rw [hf]; exact hs) h.quiet ht

theorem Calm.settle {s : State} (h : Calm s) : Calm s.settle := { h with }

/-- R75: a part in CONFIGURE, whatever command arrives. -/
theorem quiet_exec {s t : State} {c : Instr} (h : Calm s) (ht : exec c s = .next t) : ConfigureQuiet t := by
  have hs : s ∈ {s | ConfigureQuiet s} := h.quiet
  cases c
  case presence | place | amend | renew | retire | withdraw | lookup | survey | doorwayReport | carReport |
      clearObstruction | clearFault | panel | collectNotices | noticeMask | configRead | configWrite | configStore |
      startRun | restart => exact mem_arrive quiet_closed quiet_execute hs ht
  case storeCompletion => exact mem_act quiet_closed (fun hs => mem_takeStoreCompletion quiet_closed hs) hs ht
  case messageCompletion p ch =>
    exact mem_act quiet_closed (fun hs => mem_completeMessage quiet_closed quiet_execute hs p ch) hs ht
  case messageAbandoned p =>
    exact mem_act quiet_closed (f := fun s => s.setRx p none) (fun hs => mem_setRx quiet_closed hs p none) hs ht
  case answerSent p =>
    have ht : execAnswerSent p s = .next t := ht
    unfold execAnswerSent at ht
    split at ht
    · cases ht
      exact quiet_startPart _ _
    · exact mem_act quiet_closed (fun hs => mem_takeAnswerSent quiet_closed quiet_execute hs p) hs ht
  case supervisionIntervalExpiry p =>
    exact mem_act quiet_closed (fun hs => mem_supIntervalEnd quiet_closed hs p) hs ht
  case supervisionGraceExpiry p => exact mem_act quiet_closed (fun hs => mem_supGraceEnd quiet_closed hs p) hs ht
  case characterReceived p ch =>
    exact mem_act quiet_closed
      (fun hs => mem_assemble quiet_closed quiet_execute (mem_modPort quiet_closed hs p _) p ch) hs ht
  case powerOn =>
    have hon : Calm { s with supply := true } := { h with }
    have ht : execPowerOn s = .next t := ht
    unfold execPowerOn at ht
    cases ht
    split
    · exact hon.holdPart.quiet
    · exact quiet_startPart _ _
  case resetLineReleased =>
    have hoff : Calm { s with resetLine := false } := { h with }
    have ht : execResetLineReleased s = .next t := ht
    unfold execResetLineReleased at ht
    cases ht
    split
    · exact quiet_startPart _ _
    · exact hoff.quiet
  case resetLineAsserted =>
    have hon : Calm { s with resetLine := true } := { h with }
    cases ht
    exact hon.holdPart.quiet
  case supplyLoss =>
    have hoff : Calm { s with supply := false } := { h with }
    cases ht
    exact hoff.holdPart.quiet
  case channelRunEntry d => exact quiet_actSent h (fun u hu => hu.takeRunEntry d) ht
  case lineInputRunEntry => exact mem_actSent quiet_closed (fun u _ hu => mem_takeLineRunEntry quiet_closed hu) hs ht
  case lineAcceptance l lv => exact mem_execLineAcceptance quiet_closed hs ht
  case lineSample c levels => exact mem_execLineSample quiet_closed hs ht
  case internalPlacement q => exact quiet_actSent h (fun u hu => takePlacement_of_idle (.inl hu.mode)) ht
  case raise i => exact quiet_actSent h (fun u hu => hu.takeRaise i) ht
  case lineDroppedRetirement | panelOffRetirement | linkLost | provenEvent =>
    exact quiet_actSent h (fun u hu => hu.tableRetire _ _ _) ht
  case expiry i => exact quiet_act h (h.takeExpiry i) ht
  case countdownStart d => exact quiet_actSent h (fun u hu => hu.startCountdowns d) ht
  case channelEntryAtTable d e => exact quiet_actSent h (fun u hu => hu.takeChannelEntry d e) ht
  case encoderStep d dir =>
    have h1 := h.turnEncoder d dir
    cases ht
    exact ite_mem (P := {s | ConfigureQuiet s}) _ (h1.takeStep d dir).settle.quiet h1.quiet
  case illegalTransition d =>
    have h1 := h.crossEncoder d
    cases ht
    rw [h1.inRun]
    exact ite_mem (P := {s | ConfigureQuiet s}) _ h1.settle.quiet h1.quiet
  case clsAcceptedAtChannel d lv | lksAcceptedAtChannel d lv | bfltAcceptedAtChannel d lv |
      edgeAcceptedAtGuard d lv | frcAcceptedAtGuard d lv => exact quiet_actSent h (fun u hu => hu.inRun d _) ht
  case stallIntervalExpiry d | stallGraceExpiry d | warningIntervalExpiry d | reversalPauseExpiry d |
      travelTimerExpiry d | unlockWaitExpiry d | lockWaitExpiry d | retryWaitExpiry d |
      plausibilityTimerExpiry d => exact quiet_act h (h.inRun d _) ht
  case flashPhaseExpiry d =>
    exact mem_act quiet_closed (f := fun s => s.modChan d (fun c => { c with lamp := c.lamp.toggle }))
      (fun _ => (h.flash d).quiet) hs ht
  case provenFlagUpdate d sw lv =>
    exact mem_actSent quiet_closed (fun u _ hu => mem_takeCopies quiet_closed hu d _) hs ht
  case channelStateAtClu d st =>
    exact mem_actSent quiet_closed (fun u _ hu => mem_takeCopies quiet_closed hu d _) hs ht
  case zspdAtClu lv => exact mem_actSent quiet_closed (fun u _ hu => mem_takeZspd quiet_closed hu lv) hs ht
  case provingTimerExpiry => exact mem_act quiet_closed (fun hs => mem_provingEnd quiet_closed hs) hs ht

/-- Settles O54, by the mode: a part in RUN stays in RUN or starts, and one in CONFIGURE stays quiet. -/
theorem stepsKeepConfigureQuiet : Obligations.StepsKeepConfigureQuiet := by
  refine kept_of_exec (fun s l h => h.pending l) (fun c s t hs ht => ?_)
  rcases (configureQuiet_iff s).mp hs with hr | hc
  · have hplaced : ∀ s s1 q, s ∈ {s : State | s.mode = .run} → s.takeSent (.internalPlacement q) = some s1 →
        s1 ∈ {s : State | s.mode = .run} → takePlacement q s1 ∈ {s : State | s.mode = .run} :=
      fun s s1 q _ _ h1 => (mode_takePlacement q s1).trans h1
    rcases mem_exec mode_closed hr hplaced ht with h | ⟨c, u, rfl⟩
    · exact (configureQuiet_iff t).mpr (.inl h)
    · exact quiet_startPart c u
  · exact quiet_exec hc ht

end Sys2Proof.Machine
end

section
/-! SUPPORT. R41, R42, R43: what each operation of a channel and its guard section leaves of a doorway's record and of
the states that open it: entries into states that do not open (Shut), and a doorway that obeys its record (Firm). -/

namespace Sys2Proof.Machine

open Safety

/-- The channel is in a state of a fitted doorway that does not open it. -/
structure Shut (d : Door) (s : State) : Prop where
  fitted : (s.chan d).state ≠ .unfitted
  closed : openingState (s.chan d).state = false

/-- The record is the one that the table gives, and the channel opens the doorway only under a demand OPEN. -/
structure Firm (d : Door) (s : State) : Prop where
  fresh : s.fresh d
  fitted : (s.chan d).state ≠ .unfitted
  obeys : openingState (s.chan d).state = true → (s.demand d).kind = .opens

section Operations
variable {d : Door} {s t : State}

/-! ### The named updates -/

theorem Shut.firm (h : Shut d s) (hf : s.fresh d) : Firm d s :=
  ⟨hf, h.fitted, fun k => by rw [h.closed] at k; cases k⟩

theorem Shut.of_state (h : Shut d s) (hst : (t.chan d).state = (s.chan d).state) : Shut d t :=
  ⟨hst ▸ h.fitted, hst ▸ h.closed⟩

theorem Firm.of_state (h : Firm d s) (hf : t.fresh d) (hst : (t.chan d).state = (s.chan d).state)
    (hd : t.demand d = s.demand d) : Firm d t :=
  ⟨hf, hst ▸ h.fitted, fun k => by rw [hd]; exact h.obeys (hst ▸ k)⟩

/-- Under a demand OPEN every state of a fitted doorway obeys. -/
theorem Firm.of_opens (hf : s.fresh d) (hu : (s.chan d).state ≠ .unfitted) (ho : (s.demand d).kind = .opens) :
    Firm d s := ⟨hf, hu, fun _ => ho⟩

theorem Shut.modChan (h : Shut d s) (f : Channel → Channel) (hst : ∀ c, (f c).state = c.state) :
    Shut d (s.modChan d f) := h.of_state (by rw [State.chan_modChan, hst])
theorem Shut.modGuard (h : Shut d s) (f : Guard → Guard) : Shut d (s.modGuard d f) := h.of_state rfl
theorem Shut.setDemand (h : Shut d s) (r : Demand) : Shut d (s.setDemand d r) := h.of_state rfl
theorem Shut.dropGrd (h : Shut d s) : Shut d (s.dropGrd d) := h.of_state rfl
theorem Shut.send (h : Shut d s) (c : Instr) : Shut d (s.send c) := h.of_state rfl
theorem Shut.raiseDoor (h : Shut d s) (k : NoticeKind) (e : Door) : Shut d (s.raiseDoor k e) := h.of_state rfl

theorem Firm.modChan (h : Firm d s) (f : Channel → Channel)
    (hf : ∀ c, (f c).referenced = c.referenced ∧ (f c).state = c.state) : Firm d (s.modChan d f) :=
  h.of_state (fresh_modChan f (fun c => (hf c).1) h.fresh) (by rw [State.chan_modChan, (hf _).2]) rfl
theorem Firm.modGuard (h : Firm d s) (f : Guard → Guard) : Firm d (s.modGuard d f) :=
  h.of_state ((fresh_modGuard f).mpr h.fresh) rfl rfl
theorem Firm.send (h : Firm d s) (c : Instr) : Firm d (s.send c) := h.of_state ((fresh_send c).mpr h.fresh) rfl rfl
theorem Firm.raiseDoor (h : Firm d s) (k : NoticeKind) (e : Door) : Firm d (s.raiseDoor k e) :=
  h.of_state ((fresh_raiseDoor k e).mpr h.fresh) rfl rfl

/-! ### Entries and faults -/

@[simp] theorem state_enterState (st : ChState) (dr : Drive) (sol : Bool) (lamp : Lamp) :
    ((enterState d st dr sol lamp s).chan d).state = st := by simp [enterState, Channel.rest]

@[simp] theorem demand_enterState (st : ChState) (dr : Drive) (sol : Bool) (lamp : Lamp) (e : Door) :
    (enterState d st dr sol lamp s).demand e = s.demand e := rfl

theorem shut_enterState {st : ChState} (dr : Drive) (sol : Bool) (lamp : Lamp)
    (h : st ≠ .unfitted ∧ openingState st = false) : Shut d (enterState d st dr sol lamp s) :=
  ⟨by rw [state_enterState]; exact h.1, by rw [state_enterState]; exact h.2⟩

theorem Shut.clearReferenced (h : Shut d s) : Shut d (clearReferenced d s) := by
  have h1 := h.modChan (fun c => { c with referenced := false }) (fun _ => rfl)
  unfold Machine.clearReferenced
  dsimp only
  split
  · exact h1.setDemand _
  · exact h1

theorem shut_enterFaulted : Shut d (enterFaulted d s) :=
  ((((shut_enterState _ _ _ (by decide)).clearReferenced).dropGrd).send _).raiseDoor _ _

theorem Shut.detectCause (h : Shut d s) (f : FaultCause) : Shut d (detectCause d f s) := by
  unfold Machine.detectCause
  dsimp only
  split
  · exact (h.modChan _ (fun _ => by rfl)).raiseDoor _ _
  · exact shut_enterFaulted

theorem Shut.bridgeCheck (h : Shut d s) : Shut d (bridgeCheck d s) := by
  unfold Machine.bridgeCheck
  split
  · exact h.detectCause _
  · exact h

theorem Firm.detectCause (h : Firm d s) (f : FaultCause) : Firm d (detectCause d f s) := by
  have hf := fresh_detectCause f h.fresh
  unfold Machine.detectCause at hf ⊢
  dsimp only at hf ⊢
  split
  · exact (h.modChan _ (fun _ => by exact ⟨rfl, rfl⟩)).raiseDoor _ _
  · rename_i hc
    rw [if_neg hc] at hf
    exact shut_enterFaulted.firm hf

theorem Firm.bridgeCheck (h : Firm d s) : Firm d (bridgeCheck d s) := by
  unfold Machine.bridgeCheck
  split
  · exact h.detectCause _
  · exact h

theorem Firm.startPlaus (h : Firm d s) : Firm d (startPlaus d s) := by
  unfold Machine.startPlaus
  split
  · exact h.modChan _ (fun _ => by exact ⟨rfl, rfl⟩)
  · exact h

/-! ### Opening -/

theorem shut_enterOpen : Shut d (enterOpen d s) :=
  (((shut_enterState _ _ _ (by decide)).modGuard _).send _).bridgeCheck

theorem shut_openingObstruction : Shut d (openingObstruction d s) := by
  have h1 : Shut d (enterState d .openBlocked .brake false .off s) := shut_enterState _ _ _ (by decide)
  unfold openingObstruction
  dsimp only
  split
  · exact ((h1.modGuard _).modChan _ (fun _ => by rfl)).bridgeCheck
  · exact ((((h1.modGuard _).modGuard _).raiseDoor _ _).send _).bridgeCheck

theorem firm_enterOpen (h : s.fresh d) : Firm d (enterOpen d s) := shut_enterOpen.firm (fresh_enterOpen h)
theorem firm_openingObstruction (h : s.fresh d) : Firm d (openingObstruction d s) :=
  shut_openingObstruction.firm (fresh_openingObstruction h)

theorem firm_beginOpening (h : s.fresh d) (ho : (s.demand d).kind = .opens) (sl : Bool) :
    Firm d (beginOpening d sl s) := by
  have h1 : Firm d (((enterState d .plugOut .free false .off s).modChan d
      (fun c => { c.openProfile s.cfg d sl with travel := some (.opening, s.cfg.travelOpen d) })).modGuard d
      (·.beginMotion (s.cfg.stallInterval d))) := by
    refine .of_opens ?_ ?_ ho
    · exact (fresh_modGuard _).mpr (fresh_modChan _ (by intro _; rfl) (fresh_enterState _ _ _ _ h))
    · cases sl <;> simp [Channel.openProfile]
  unfold beginOpening
  dsimp only
  split
  · exact firm_openingObstruction h1.bridgeCheck.fresh
  · exact h1.bridgeCheck

theorem Firm.openByPosition (h : Firm d s) (ho : (s.demand d).kind = .opens) : Firm d (openByPosition d s) := by
  unfold Machine.openByPosition
  dsimp only
  split
  · exact h
  split
  · exact firm_enterOpen h.fresh
  · exact firm_beginOpening h.fresh ho _

/-! ### Locking and referencing -/

theorem firm_enterUnlocking (h : s.fresh d) (ho : (s.demand d).kind = .opens) : Firm d (enterUnlocking d s) := by
  have h1 : Firm d ((enterState d .unlocking .brake true .off s).modChan d
      (fun c => { c with unlock := some (.first, s.cfg.unlockTime d) })) :=
    (Firm.of_opens (fresh_enterState _ _ _ _ h) (by simp) ho).modChan _ (fun _ => by exact ⟨rfl, rfl⟩)
  unfold enterUnlocking
  dsimp only
  split
  · rename_i hu
    exact firm_beginOpening h1.bridgeCheck.fresh (h1.bridgeCheck.obeys (by rw [hu.1]; rfl)) _
  · exact h1.bridgeCheck

theorem shut_enterLocked : Shut d (enterLocked d s) :=
  ((shut_enterState _ _ _ (by decide)).modChan _ (fun _ => by rfl)).modGuard _

theorem shut_enterLocking : Shut d (enterLocking d s) := by
  unfold enterLocking
  dsimp only
  split
  · exact shut_enterLocked
  · exact ((shut_enterState _ _ _ (by decide)).modChan _ (fun _ => by rfl)).bridgeCheck

theorem shut_enterReseat : Shut d (enterReseat d s) :=
  ((shut_enterState _ _ _ (by decide)).modChan _ (fun _ => by rfl)).bridgeCheck

theorem firm_enterLocked (h : s.fresh d) : Firm d (enterLocked d s) := shut_enterLocked.firm (fresh_enterLocked h)
theorem firm_enterLocking (h : s.fresh d) : Firm d (enterLocking d s) := shut_enterLocking.firm (fresh_enterLocking h)
theorem firm_enterReseat (h : s.fresh d) : Firm d (enterReseat d s) := shut_enterReseat.firm (fresh_enterReseat h)

/-- R42, R56: the flag set, the record recomputed and delivered are one event, whatever the record was. -/
theorem firm_takeReference (press : Bool) : Firm d (takeReference d press s) := by
  have h2 : ∀ u : State, Shut d (if press then enterLocking d u else enterLocked d u) := fun u => by
    cases press
    · exact shut_enterLocked
    · exact shut_enterLocking
  unfold takeReference
  dsimp only
  generalize ((s.modChan d _).modGuard d Guard.zeroRetry) = s1
  have h2 := h2 s1
  generalize (if press = true then _ else _ : State) = s2 at h2 ⊢
  have h3 : (s2.setDemand d (s2.resolve d)).fresh d := fresh_setDemand_resolve
  split
  · rename_i he
    exact h2.firm (fun _ => he.symm)
  split
  · rename_i ho
    have ho : ((s2.setDemand d (s2.resolve d)).demand d).kind = .opens := by rw [State.demand_setDemand]; exact ho
    split
    · exact firm_enterUnlocking h3 ho
    split
    · exact firm_beginOpening h3 ho _
    · exact .of_opens h3 h2.fitted ho
  · exact (h2.setDemand _).firm h3

/-! ### Closing -/

theorem shut_enterWarning : Shut d (enterWarning d s) :=
  ((shut_enterState _ _ _ (by decide)).modChan _ (fun _ => by rfl)).bridgeCheck
theorem shut_enterStopping : Shut d (enterStopping d s) :=
  ((shut_enterState _ _ _ (by decide)).modChan _ (fun _ => by rfl)).bridgeCheck
theorem shut_enterStanding : Shut d (enterStanding d s) :=
  (((shut_enterState _ _ _ (by decide)).raiseDoor _ _).dropGrd).send _
theorem shut_enterEgress : Shut d (enterEgress d s) :=
  ((((shut_enterState _ _ _ (by decide)).modChan _ (fun _ => by rfl)).clearReferenced).dropGrd).send _

theorem firm_enterWarning (h : s.fresh d) : Firm d (enterWarning d s) := shut_enterWarning.firm (fresh_enterWarning h)
theorem firm_enterStopping (h : s.fresh d) : Firm d (enterStopping d s) :=
  shut_enterStopping.firm (fresh_enterStopping h)
theorem firm_enterStanding (h : s.fresh d) : Firm d (enterStanding d s) :=
  shut_enterStanding.firm (fresh_enterStanding h)
theorem firm_enterEgress (h : s.fresh d) : Firm d (enterEgress d s) := shut_enterEgress.firm (fresh_enterEgress h)

theorem Firm.endRelief (h : Firm d s) : Firm d (endRelief d s) := by
  unfold Machine.endRelief
  split
  · exact firm_enterStanding h.fresh
  split
  · rename_i ho; exact h.openByPosition ho
  · exact firm_enterWarning h.fresh
  · exact firm_enterWarning h.fresh
  · exact firm_enterEgress h.fresh

theorem firm_enterRelief (h : s.fresh d) : Firm d (enterRelief d s) := by
  have h1 := (((shut_enterState (s := s) (d := d) (st := .relief) (.driveOpen (s.cfg.reliefLevel d))
    false .on (by decide)).modGuard (fun g => { g with
      reliefSteps := 0, stage := .single, stallTimer := some (s.cfg.stallInterval d) })).bridgeCheck).firm
    (fresh_bridgeCheck ((fresh_modGuard _).mpr (fresh_enterState _ _ _ _ h)))
  unfold enterRelief
  dsimp only
  split
  · exact h1.endRelief
  · exact h1

theorem firm_closingDetection (h : s.fresh d) (c : ObsCause) : Firm d (closingDetection d c s) := by
  unfold closingDetection
  refine firm_enterRelief ?_
  split
  · exact h
  · exact h

theorem firm_forceDetection (h : s.fresh d) : Firm d (forceDetection d s) := by
  unfold forceDetection
  split
  · exact firm_openingObstruction h
  · exact firm_closingDetection h _

theorem Firm.senseAtStart (h : Firm d s) : Firm d (senseAtStart d s) := by
  unfold Machine.senseAtStart
  split
  · exact firm_closingDetection h.fresh _
  split
  · exact firm_closingDetection h.fresh _
  · exact h

/-- A closing profile is that of SLIDE_CLOSE or of PLUG_IN. -/
theorem Shut.closeProfile (cfg : Image) (sl : Bool) (f : Channel → Channel)
    (hf : ∀ c, (f c).state = (c.closeProfile cfg d sl).state) : Shut d (s.modChan d f) := by
  have hst : ((s.modChan d f).chan d).state = if sl then .slideClose else .plugIn := by
    rw [State.chan_modChan, hf]
    rfl
  cases sl <;> exact ⟨by rw [hst]; decide, by rw [hst]; rfl⟩

theorem firm_beginClosing (h : s.fresh d) : Firm d (beginClosing d s) := by
  have hf : ∀ sl, (((enterState d .plugIn .free false .on s).modChan d
      (fun c => { c.closeProfile s.cfg d sl with travel := some (.closing, s.cfg.travelClose d) })).modGuard d
      (·.beginMotion (s.cfg.stallInterval d))).fresh d := fun sl =>
    (fresh_modGuard _).mpr (fresh_modChan _ (by intro _; rfl) (fresh_enterState _ _ _ _ h))
  have h1 := fun sl => ((Shut.closeProfile s.cfg sl _ (fun _ => by rfl)).modGuard _).bridgeCheck.firm
    (fresh_bridgeCheck (hf sl))
  unfold beginClosing
  dsimp only
  split
  · exact firm_enterLocking (h1 _).fresh
  · exact (h1 _).senseAtStart

theorem firm_endReferencing : Firm d (endReferencing d s) := firm_takeReference _

theorem firm_enterReferencing (h : s.fresh d) : Firm d (enterReferencing d s) := by
  have h1 : Firm d (bridgeCheck d (((enterState d .referencing (.driveClose (s.cfg.refLevel d)) false .on s).modChan d
      (fun c => { c with
        threshold := s.cfg.closeForce d 0
        travel := some (.referencing, 2 * s.cfg.travelClose d) })).modGuard d
      (·.beginMotion (s.cfg.stallInterval d)))) :=
    (((shut_enterState _ _ _ (by decide)).modChan _ (fun _ => by rfl)).modGuard _).bridgeCheck.firm
      (fresh_bridgeCheck ((fresh_modGuard _).mpr (fresh_modChan _ (by intro _; rfl) (fresh_enterState _ _ _ _ h))))
  unfold enterReferencing
  dsimp only
  split
  · split
    · exact firm_endReferencing
    · exact h1.senseAtStart
  · exact h1

/-! ### UNREFERENCED, EGRESS and the reaction to a record -/

theorem Firm.actUnreferenced (h : Firm d s) : Firm d (actUnreferenced d s) := by
  unfold Machine.actUnreferenced
  dsimp only
  split
  · exact firm_enterEgress h.fresh
  · exact h
  · split
    · exact h
    · exact firm_enterWarning h.fresh
  · split
    · exact h
    · exact firm_enterWarning h.fresh

theorem firm_enterUnreferenced (h : s.fresh d) : Firm d (enterUnreferenced d s) := by
  have h1 : Firm d (enterState d .unreferenced .free false .off s) :=
    (shut_enterState _ _ _ (by decide)).firm (fresh_enterState _ _ _ _ h)
  unfold enterUnreferenced
  dsimp only
  split
  · exact h1
  split
  · exact firm_takeReference _
  · exact h1.actUnreferenced

theorem firm_exitEgress (h : s.fresh d) : Firm d (exitEgress d s) := by
  have hend : ∀ u : State, u.fresh d →
      Firm d (if (u.chan d).fault.isSome then enterFaulted d u else enterUnreferenced d u) := fun u hu => by
    split
    · exact shut_enterFaulted.firm (fresh_enterFaulted hu)
    · exact firm_enterUnreferenced hu
  have h1 := fresh_enterState .unreferenced .free false .off h
  refine hend _ ?_
  split
  · exact fresh_startPlaus h1
  · exact h1

theorem Firm.reactOpen (h : Firm d s) (ho : (s.demand d).kind = .opens) : Firm d (reactOpen d s) := by
  unfold Machine.reactOpen
  dsimp only
  split
  · exact h
  split
  · exact firm_beginOpening h.fresh ho _
  · exact h

theorem Firm.reactSlideOpen (h : Firm d s) : Firm d (reactSlideOpen d s) := by
  unfold Machine.reactSlideOpen
  split
  · exact h
  split
  · exact firm_enterOpen h.fresh
  · exact h

theorem Firm.reactOpenBlocked (h : Firm d s) : Firm d (reactOpenBlocked d s) := by
  unfold Machine.reactOpenBlocked
  split
  · exact h
  split
  · exact firm_enterOpen h.fresh
  · exact h

theorem Firm.reactToOpen (h : Firm d s) (ho : (s.demand d).kind = .opens) : Firm d (reactToOpen d s) := by
  unfold Machine.reactToOpen
  cases (s.chan d).state with
  | unfitted | unreferenced | referencing | unlocking | plugOut | stopping | relief | egress | faulted => exact h
  | locked => exact firm_enterUnlocking h.fresh ho
  | slideOpen => exact h.reactSlideOpen
  | isOpen => exact h.reactOpen ho
  | openBlocked => exact h.reactOpenBlocked
  | warning | standing => exact h.openByPosition ho
  | slideClose | plugIn => exact firm_enterStopping h.fresh
  | locking | reseat => exact firm_beginOpening h.fresh ho _

/-- Table 3-3: under a closing demand every opening state is left. -/
theorem firm_reactToClose (h : s.fresh d) (hu : (s.chan d).state ≠ .unfitted) : Firm d (reactToClose d s) := by
  have hstay : openingState (s.chan d).state = false → Firm d s := fun hc => Shut.firm ⟨hu, hc⟩ h
  unfold reactToClose
  cases hst : (s.chan d).state with
  | unfitted | unreferenced | referencing | locked | stopping | warning | slideClose | plugIn | locking | reseat |
    relief | standing | egress | faulted => exact hstay (by rw [hst]; rfl)
  | unlocking => exact firm_enterLocked h
  | plugOut | slideOpen => exact firm_enterStopping h
  | isOpen => exact firm_enterWarning h
  | openBlocked => exact firm_enterWarning ((fresh_modGuard _).mpr h)

theorem Firm.reactWarningUnreferenced (h : Firm d s) : Firm d (reactWarningUnreferenced d s) := by
  unfold Machine.reactWarningUnreferenced
  dsimp only
  split
  · exact firm_enterUnreferenced h.fresh
  · exact h

/-- The states of a fitted doorway whose channel has yet to enter RUN (R75, log 15). -/
def Waits (c : Channel) : Prop := c.state = .unreferenced ∨ c.state = .egress ∨ c.state = .faulted

theorem Waits.shut (h : Waits (s.chan d)) : Shut d s := by
  rcases h with h | h | h <;> exact ⟨by rw [h]; decide, by rw [h]; rfl⟩

/-- R43: a channel that obeyed its old record obeys the one delivered. -/
theorem firm_react {old : Demand} (h : s.fresh d) (hu : (s.chan d).state ≠ .unfitted)
    (hold : openingState (s.chan d).state = true → old.kind = .opens)
    (hw : s.chanInRun d = false → Waits (s.chan d)) : Firm d (react d old s) := by
  have hstay : openingState (s.chan d).state = false → Firm d s := fun hc => Shut.firm ⟨hu, hc⟩ h
  unfold react
  dsimp only
  rw [if_neg hu]
  split
  · split
    · rename_i he
      exact hstay (by rw [he]; rfl)
    · exact firm_enterEgress h
  split
  · exact firm_exitEgress h
  split
  · rename_i hr
    exact (hw (by simpa using hr)).shut.firm h
  split
  · rename_i hst
    exact (hstay (by rw [hst]; rfl)).actUnreferenced
  split
  · rename_i hst
    exact (hstay (by rw [hst.1]; rfl)).reactWarningUnreferenced
  split
  · rename_i hsame
    have hkind : old.kind = (s.demand d).kind := by
      by_contra hne
      simp [demandChanged, hne] at hsame
    exact ⟨h, hu, fun ho => hkind ▸ hold ho⟩
  split
  · rename_i ho
    exact (Firm.of_opens h hu ho).reactToOpen ho
  · exact firm_reactToClose h hu

theorem Firm.atChannel {f : State → State} (h : Firm d (f s)) : Firm d (atChannel d f s) := by
  unfold Machine.atChannel
  dsimp only
  split
  · exact h
  · exact h.send _

/-- R41, R43: a recomputation leaves the doorway obeying the record that it gives. -/
theorem firm_recomputeDoor (hfit : s.fitted d = true) (hu : (s.chan d).state ≠ .unfitted)
    (hobeys : openingState (s.chan d).state = true → (s.demand d).kind = .opens)
    (hw : s.chanInRun d = false → Waits (s.chan d)) : Firm d (recomputeDoor d s) := by
  unfold recomputeDoor
  dsimp only
  rw [hfit]
  split
  · contradiction
  split
  · rename_i he
    exact ⟨fun _ => he.symm, hu, hobeys⟩
  · exact (firm_react fresh_setDemand_resolve hu hobeys hw).atChannel

end Operations

end Sys2Proof.Machine
end

section
/-! SUPPORT. R43: a doorway that obeys its record obeys it after every event at its channel and guard section
(Machine/Motion.lean, Machine/Sensing.lean, Machine/DoorRequests.lean, Machine/Start.lean). -/

namespace Sys2Proof.Machine

open Safety

section Events
variable {d : Door} {s : State}

/-! ### The encoder -/

@[simp] theorem Channel.referenced_count (c : Channel) (dir : Dir) : (c.count dir).referenced = c.referenced := by
  cases dir <;> rfl
@[simp] theorem Channel.state_count (c : Channel) (dir : Dir) : (c.count dir).state = c.state := by
  cases dir <;> rfl

/-- A passage between opening motion states is made in one of them. -/
theorem Firm.passOpening (h : Firm d s) (ho : (s.demand d).kind = .opens) (sl : Bool) : Firm d (passOpening d sl s) := by
  have h1 : Firm d (s.modChan d (Channel.openProfile s.cfg d sl)) := by
    refine .of_opens (fresh_modChan _ (by intro _; rfl) h.fresh) ?_ ho
    cases sl <;> simp [Channel.openProfile]
  unfold Machine.passOpening
  dsimp only
  split
  · exact h1
  · exact h1.bridgeCheck

theorem Firm.passClosing (h : Firm d s) (sl : Bool) : Firm d (passClosing d sl s) := by
  have h1 : Firm d (s.modChan d (Channel.closeProfile s.cfg d sl)) :=
    (Shut.closeProfile s.cfg sl _ (fun _ => by rfl)).firm (fresh_modChan _ (by intro _; rfl) h.fresh)
  unfold Machine.passClosing
  dsimp only
  split
  · exact h1
  · exact h1.bridgeCheck

theorem Firm.stepGeometry (h : Firm d s) : Firm d (stepGeometry d s) := by
  unfold Machine.stepGeometry
  dsimp only
  cases hst : (s.chan d).state with
  | plugOut => exact h.passOpening (h.obeys (by rw [hst]; rfl)) _
  | slideOpen =>
    have ho := h.obeys (by rw [hst]; rfl)
    dsimp only
    split
    · split
      · exact firm_enterOpen h.fresh
      · exact h.passOpening ho _
    · exact h.passOpening ho _
  | slideClose =>
    dsimp only
    split
    · exact firm_enterLocking (h.passClosing _).fresh
    · exact h.passClosing _
  | plugIn =>
    dsimp only
    split
    · exact firm_enterLocking h.fresh
    · exact h.passClosing _
  | unfitted | unreferenced | referencing | locked | unlocking | isOpen | openBlocked | stopping | warning | locking |
    reseat | relief | standing | egress | faulted => exact h

theorem Firm.stepInSlide (h : Firm d s) (b : Channel) : Firm d (stepInSlide d b s) := by
  unfold Machine.stepInSlide
  dsimp only
  split
  · exact h.detectCause _
  · exact h

theorem Firm.stepInMotion (h : Firm d s) (b : Channel) : Firm d (stepInMotion d b s) := by
  have h1 := h.modGuard (fun g =>
    { g with blank := min ((s.guard d).blank + 1) (s.cfg.blankSteps d), stage := .normal
             stallTimer := some (s.cfg.stallInterval d) })
  have hend : ∀ (u : State) (p q : Prop) [Decidable p] [Decidable q], Firm d u →
      Firm d (if p then closingDetection d .edge u else if q then forceDetection d u else u) := by
    intro u p q _ _ hu
    split
    · exact firm_closingDetection hu.fresh _
    split
    · exact firm_forceDetection hu.fresh
    · exact hu
  unfold Machine.stepInMotion
  dsimp only
  refine hend _ _ _ ?_
  split
  · exact h1.modChan _ (fun _ => by exact ⟨rfl, rfl⟩)
  · exact h1

theorem Firm.stepInRelief (h : Firm d s) : Firm d (stepInRelief d s) := by
  have h1 := h.modGuard (fun g =>
    { g with reliefSteps := (s.guard d).reliefSteps + 1, stallTimer := some (s.cfg.stallInterval d) })
  unfold Machine.stepInRelief
  dsimp only
  split
  · exact h1.endRelief
  · exact h1

theorem Firm.stepAtGuard (h : Firm d s) (b : Channel) : Firm d (stepAtGuard d b s) := by
  unfold Machine.stepAtGuard
  split
  · exact h.stepInMotion b
  split
  · exact h.stepInRelief
  · exact h

theorem Firm.afterStep (h : Firm d s) (b : Channel) : Firm d (afterStep d b s) :=
  ((h.stepGeometry).stepInSlide b).stepAtGuard b

theorem Firm.takeStep (h : Firm d s) (dir : Dir) : Firm d (takeStep d dir s) := by
  have h1 := h.modChan (·.count dir) (fun c => ⟨c.referenced_count dir, c.state_count dir⟩)
  unfold Machine.takeStep
  dsimp only
  split
  · exact h
  split
  · exact h1
  split
  · exact (h.detectCause _).atChannel
  · exact (h1.afterStep _).atChannel

/-! ### Switches and timers -/

theorem Firm.pairMade (h : Firm d s) : Firm d (pairMade d s) := by
  unfold Machine.pairMade
  dsimp only
  split
  · exact firm_enterLocked h.fresh
  split
  · exact firm_takeReference _
  · exact h

theorem Firm.clsMade (h : Firm d s) : Firm d (clsMade d s) := by
  have h1 := h.modChan (fun c => { c with plaus := none }) (fun _ => ⟨rfl, rfl⟩)
  unfold Machine.clsMade
  dsimp only
  split
  · exact h1.detectCause _
  split
  · exact firm_endReferencing
  split
  · exact firm_enterLocking h1.fresh
  split
  · exact h1.pairMade
  · exact h1

theorem Firm.clsBroken (h : Firm d s) : Firm d (clsBroken d s) := by
  have hend : ∀ u, Firm d u →
      Firm d (if (u.chan d).state = .locked then Machine.detectCause d (.lockLost .closed) u else u) := fun u hu => by
    split
    · exact hu.detectCause _
    · exact hu
  unfold Machine.clsBroken
  refine hend _ ?_
  split
  · exact h.modChan _ (fun _ => by exact ⟨rfl, rfl⟩)
  · exact h

theorem Firm.lksMade (h : Firm d s) : Firm d (lksMade d s) := by
  unfold Machine.lksMade
  split
  · exact h.pairMade
  split
  · exact h
  · exact h.modChan _ (fun _ => by exact ⟨rfl, rfl⟩)

theorem Firm.lksBroken (h : Firm d s) : Firm d (lksBroken d s) := by
  have h1 := h.modChan (fun c => { c with plaus := none }) (fun _ => ⟨rfl, rfl⟩)
  unfold Machine.lksBroken
  dsimp only
  split
  · exact h1.detectCause _
  split
  · rename_i hu
    exact firm_beginOpening h1.fresh (h1.obeys (by rw [hu]; rfl)) _
  · exact h1

theorem Firm.warningEnd (h : Firm d s) : Firm d (warningEnd d s) := by
  unfold Machine.warningEnd
  split
  · exact h
  split
  · exact firm_beginClosing h.fresh
  · exact firm_enterReferencing h.fresh

theorem Firm.pauseEnd (h : Firm d s) : Firm d (pauseEnd d s) := by
  unfold Machine.pauseEnd
  split
  · exact h
  split
  · rename_i ho; exact h.openByPosition ho
  · exact firm_enterWarning h.fresh
  · exact firm_enterWarning h.fresh
  · exact firm_enterEgress h.fresh

theorem Firm.travelEnd (h : Firm d s) : Firm d (travelEnd d s) := by
  unfold Machine.travelEnd
  split
  · exact h
  · exact h.detectCause _

theorem Firm.unlockWaitEnd (h : Firm d s) : Firm d (unlockWaitEnd d s) := by
  unfold Machine.unlockWaitEnd
  split
  · exact h
  · exact h.modChan _ (fun _ => by exact ⟨rfl, rfl⟩)
  · exact h.modChan _ (fun _ => by exact ⟨rfl, rfl⟩)
  · exact h.detectCause _

theorem Firm.lockWaitEnd (h : Firm d s) : Firm d (lockWaitEnd d s) := by
  unfold Machine.lockWaitEnd
  split
  · exact h
  split
  · exact firm_enterReseat h.fresh
  · exact h.detectCause _

theorem Firm.retryNow (h : Firm d s) : Firm d (retryNow d s) := by
  unfold Machine.retryNow
  split
  · rename_i ho; exact h.openByPosition ho
  · exact h

theorem Firm.retryWaitEnd (h : Firm d s) : Firm d (retryWaitEnd d s) := by
  unfold Machine.retryWaitEnd
  split
  · exact h
  · exact h.retryNow

theorem Firm.plausEnd (h : Firm d s) : Firm d (plausEnd d s) := by
  unfold Machine.plausEnd
  split
  · exact h
  · exact (h.modChan _ (fun _ => by exact ⟨rfl, rfl⟩)).detectCause _

/-! ### The guard section -/

theorem Firm.edgeAsserted (h : Firm d s) : Firm d (edgeAsserted d s) := by
  unfold Machine.edgeAsserted
  split
  · exact firm_closingDetection h.fresh _
  split
  · exact h.modChan _ (fun _ => by exact ⟨rfl, rfl⟩)
  · exact h

theorem Firm.forceAsserted (h : Firm d s) : Firm d (forceAsserted d s) := by
  unfold Machine.forceAsserted
  split
  · exact firm_forceDetection h.fresh
  · exact h

theorem Firm.stallIntervalEnd (h : Firm d s) : Firm d (stallIntervalEnd d s) := by
  unfold Machine.stallIntervalEnd
  split
  · exact (h.modChan _ (fun _ => by exact ⟨rfl, rfl⟩)).modGuard _
  · exact h.endRelief
  · exact h
  · exact h

theorem firm_stallDetection (h : s.fresh d) : Firm d (stallDetection d s) := by
  unfold stallDetection
  split
  · split
    · split
      · exact firm_enterOpen h
      · exact firm_openingObstruction h
    · exact firm_openingObstruction h
  · exact firm_closingDetection h _

theorem Firm.stallGraceEnd (h : Firm d s) : Firm d (stallGraceEnd d s) := by
  unfold Machine.stallGraceEnd
  split
  · exact firm_stallDetection h.fresh
  · exact h

/-! ### Requests at a doorway and the entry into RUN -/

theorem Firm.clearStanding (h : Firm d s) : Firm d (clearStanding d s) := by
  unfold Machine.clearStanding
  split
  · rename_i ho; exact h.openByPosition ho
  · exact firm_enterWarning h.fresh
  · exact firm_enterWarning h.fresh
  · exact firm_enterEgress h.fresh

theorem Firm.clearDoor (h : Firm d s) : Firm d (clearDoor d s) := by
  have h1 := h.modGuard Guard.zeroRecord
  unfold Machine.clearDoor
  dsimp only
  split
  · exact h1.clearStanding
  split
  · exact (h1.modChan _ (fun _ => by exact ⟨rfl, rfl⟩)).retryNow
  · exact h1

theorem Firm.clearFaultAt (h : Firm d s) : Firm d (clearFaultAt d s) := by
  have h1 := ((h.modChan (fun c => { c with fault := none }) (fun _ => ⟨rfl, rfl⟩)).modGuard Guard.zeroRecord).startPlaus
  unfold Machine.clearFaultAt
  dsimp only
  split
  · exact firm_enterUnreferenced h1.fresh
  · exact h1

theorem Firm.takeRunEntry (h : Firm d s) : Firm d (takeRunEntry d s) := by
  unfold Machine.takeRunEntry
  dsimp only
  split
  · exact h
  split
  · exact h.startPlaus.detectCause _
  · exact firm_enterUnreferenced h.startPlaus.fresh

end Events

end Sys2Proof.Machine
end

section
/-! SUPPORT. What the lines, the ports and the Car Loop Unit leave alone: the table, the doorways, the configuration, the
mode, and the entries into RUN that are outstanding (R102 to R115, R121 to R126, R163 to R170). -/

namespace Sys2Proof.Machine

/-- An entry into RUN on its way to a channel (R179). -/
def isRunEntry : Instr → Bool
  | .channelRunEntry _ => true
  | _ => false

/-- What neither the lines nor the ports nor the Car Loop Unit write. -/
structure Blocks where
  mode : Mode
  epoch : Byte
  cfg : Image
  slots : Vector Slot 64
  chans : Vector Channel 8
  guards : Vector Guard 8
  demands : Vector Demand 8
  entries : List Instr

/-- The table, the doorways, the configuration and the mode of the part, and the entries into RUN outstanding. -/
def State.blocks (s : State) : Blocks :=
  { mode := s.mode, epoch := s.epoch, cfg := s.cfg, slots := s.slots, chans := s.chans, guards := s.guards
    demands := s.demands, entries := s.sent.filter isRunEntry }

/-- An entry into RUN is outstanding where it is among the entries that are. -/
theorem contains_entries (s : State) (d : Door) :
    s.blocks.entries.contains (.channelRunEntry d) = s.sent.contains (.channelRunEntry d) := by
  rw [Bool.eq_iff_iff]
  simp [State.blocks, isRunEntry]

section Updates
variable (s : State)

@[simp] theorem blocks_modPort (p : Port) (f : PortState → PortState) : (s.modPort p f).blocks = s.blocks := by
  cases p <;> rfl
@[simp] theorem blocks_raiseOn (p : Port) (k : NoticeKind) : (s.raiseOn p k).blocks = s.blocks := blocks_modPort s p _
@[simp] theorem blocks_raiseBoth (k : NoticeKind) : (s.raiseBoth k).blocks = s.blocks := rfl
@[simp] theorem blocks_setFilter (l : Line) (f : Filter) : (s.setFilter l f).blocks = s.blocks := rfl
@[simp] theorem blocks_setCluDoor (d : Door) (x : CluDoor) : (s.setCluDoor d x).blocks = s.blocks := rfl
@[simp] theorem blocks_setClu (x : CarLoop) : ({ s with clu := x } : State).blocks = s.blocks := rfl
@[simp] theorem blocks_settle : s.settle.blocks = s.blocks := rfl
@[simp] theorem blocks_formAnswer (p : Port) (k seq : Byte) (r : Reply) (b : Bool) :
    (s.formAnswer p k seq r b).blocks = s.blocks := blocks_modPort s p _

@[simp] theorem blocks_sendAll {es : List Instr} (h : es.filter isRunEntry = []) : (s.sendAll es).blocks = s.blocks := by
  simp [State.blocks, State.sendAll, List.filter_append, h]
@[simp] theorem blocks_send {e : Instr} (h : isRunEntry e = false) : (s.send e).blocks = s.blocks := by
  simp [State.blocks, State.send, List.filter_append, h]

theorem blocks_foldl {α : Type} {f : State → α → State} (hf : ∀ s a, (f s a).blocks = s.blocks) (l : List α) :
    (l.foldl f s).blocks = s.blocks := by
  induction l generalizing s with
  | nil => rfl
  | cons a l ih => rw [List.foldl_cons, ih, hf]

end Updates

/-! ### The lines (Chapter 5) -/

section Lines
variable (s : State)

@[simp] theorem blocks_takeRelease (sd : Side) (on : Bool) : (takeRelease sd on s).blocks = s.blocks := by
  unfold takeRelease
  split
  · rfl
  split
  · exact blocks_sendAll s (by cases sd <;> rfl)
  · exact blocks_send s rfl

@[simp] theorem blocks_takeZeroSpeed (lv : Level) : (takeZeroSpeed lv s).blocks = s.blocks := by
  have h1 : (s.send (.zspdAtClu lv)).blocks = s.blocks := blocks_send s rfl
  unfold takeZeroSpeed
  dsimp only
  split
  · exact h1
  split
  · exact (blocks_sendAll _ rfl).trans h1
  · exact h1

@[simp] theorem blocks_takeButton (d : Door) (on : Bool) : (takeButton d on s).blocks = s.blocks := by
  unfold takeButton
  split
  · split
    · exact blocks_send s rfl
    · rfl
  · rfl

@[simp] theorem blocks_takeHandle (d : Door) (on : Bool) : (takeHandle d on s).blocks = s.blocks := by
  unfold takeHandle
  split
  · exact blocks_send s rfl
  · rfl

/-- What an acceptance hands over is no entry into RUN. -/
@[simp] theorem blocks_handOver (l : Line) (lv : Level) : (handOver l lv s).blocks = s.blocks := by
  have hfit : ∀ (b : Bool) (u : State), u.blocks = s.blocks → (if b = true then u else s).blocks = s.blocks :=
    fun b u hu => by
      cases b
      · rfl
      · exact hu
  cases l with
  | relL => exact blocks_takeRelease s _ _
  | relR => exact blocks_takeRelease s _ _
  | zspd => exact blocks_takeZeroSpeed s lv
  | mkey => rfl
  | btn d => exact hfit _ _ (blocks_takeButton s d _)
  | hdl d => exact hfit _ _ (blocks_takeHandle s d _)
  | edge d | frc d | bflt d => exact hfit _ _ (blocks_send s rfl)
  | cls d | lks d => exact hfit _ _ (blocks_sendAll s rfl)

@[simp] theorem blocks_acceptLine (l : Line) (lv : Level) : (acceptLine l lv s).blocks = s.blocks :=
  blocks_handOver _ l lv

@[simp] theorem blocks_sampleLine (l : Line) (lv : Level) : (sampleLine l lv s).blocks = s.blocks := by
  unfold sampleLine
  dsimp only
  split
  · rfl
  split
  · exact blocks_acceptLine s l lv
  · rfl

theorem blocks_takeLineRunEntry : (takeLineRunEntry s).blocks = s.blocks := by
  have hside : ∀ (u : State) (l : Line) (sd : Side),
      (if u.asserted l = true then takeRelease sd true u else u).blocks = u.blocks := fun u l sd => by
    split
    · exact blocks_takeRelease u sd true
    · rfl
  unfold takeLineRunEntry
  dsimp only
  rw [blocks_foldl, hside, hside]
  intro u d
  split
  · exact blocks_takeHandle u d true
  · rfl

theorem blocks_execLineSample {t : State} {c : LineClass} {levels : List Level}
    (ht : execLineSample c levels s = .next t) : t.blocks = s.blocks := by
  unfold execLineSample movePins sampleClass at ht
  cases ht
  split
  · rfl
  split
  · exact blocks_foldl s (by intro u x; rfl) _
  split
  · rfl
  · exact blocks_foldl s (by intro u x; exact blocks_sampleLine u x.1 x.2) _

theorem blocks_execLineAcceptance {t : State} {l : Line} {lv : Level} (ht : execLineAcceptance l lv s = .next t) :
    t.blocks = s.blocks := by
  unfold execLineAcceptance at ht
  cases ht
  split
  · rfl
  split
  · exact blocks_acceptLine s l lv
  · rfl

/-! ### Supervision, the store and the Car Loop Unit -/

theorem blocks_takeStoreCompletion : (takeStoreCompletion s).blocks = s.blocks := by
  unfold takeStoreCompletion
  split
  · rfl
  dsimp only
  split
  · exact blocks_formAnswer _ _ _ _ _ _
  · rfl
  · rfl

theorem blocks_supIntervalEnd (p : Port) : (supIntervalEnd p s).blocks = s.blocks := by
  unfold supIntervalEnd
  split
  · rw [blocks_raiseOn, blocks_modPort]
  · rfl

theorem blocks_supGraceEnd (p : Port) : (supGraceEnd p s).blocks = s.blocks := by
  unfold supGraceEnd
  split
  · rw [blocks_raiseOn, blocks_send _ rfl, blocks_modPort]
  · rfl

@[simp] theorem blocks_setLoop (on : Bool) : (setLoop on s).blocks = s.blocks := by
  unfold setLoop
  split <;> rfl

theorem blocks_updateStage : (updateStage s).blocks = s.blocks := by
  unfold updateStage
  split
  · rfl
  split
  · split <;> rfl
  · exact blocks_setLoop _ _

theorem blocks_takeCopies (d : Door) (x : CluDoor) : (takeCopies d x s).blocks = s.blocks := by
  unfold takeCopies
  dsimp only
  rw [blocks_updateStage]
  split
  · exact blocks_send _ rfl
  · rfl

theorem blocks_takeZspd (lv : Level) : (takeZspd lv s).blocks = s.blocks := by
  unfold takeZspd
  dsimp only
  split
  · rfl
  split
  · rfl
  split <;> rfl

theorem blocks_provingEnd : (provingEnd s).blocks = s.blocks := by
  unfold provingEnd
  split
  · exact blocks_setLoop _ _
  · rfl

end Lines

/-! ### Messages (R163 to R168) -/

/-- The ports alone differ. -/
def PortsAlone (s t : State) : Prop := ∃ x y, t = { s with portT := x, portS := y }

theorem PortsAlone.refl (s : State) : PortsAlone s s := ⟨s.portT, s.portS, rfl⟩

theorem PortsAlone.modPort {s t : State} (h : PortsAlone s t) (p : Port) (f : PortState → PortState) :
    PortsAlone s (t.modPort p f) := by
  obtain ⟨x, y, rfl⟩ := h
  cases p <;> exact ⟨_, _, rfl⟩

theorem PortsAlone.blocks {s t : State} (h : PortsAlone s t) : t.blocks = s.blocks := by
  obtain ⟨x, y, rfl⟩ := h
  rfl

/-- What a port does with what it hears: it changes ports alone, and then it may execute one message. -/
inductive Executes (s : State) : State → Prop where
  | heard {t : State} (h : PortsAlone s t) : Executes s t
  | executed {u : State} (h : PortsAlone s u) (p : Port) (m : Message) : Executes s (execute p m u)

section Messages
variable {s u : State} (h : PortsAlone s u)
include h

theorem PortsAlone.takeMessage (p : Port) (m : Message) : Executes s (takeMessage p m u) := by
  unfold Machine.takeMessage
  split
  · exact .executed h p m
  all_goals exact .heard (h.modPort p _)

theorem PortsAlone.takeRequest (p : Port) (kind seq : Byte) (b : List Byte) : Executes s (takeRequest p kind seq b u) := by
  unfold Machine.takeRequest goodRequest
  split
  · exact h.takeMessage p _
  · exact (h.modPort p _).takeMessage p _

theorem PortsAlone.intake (p : Port) (damaged : Bool) (body : List Byte) : Executes s (intake p damaged body u) := by
  unfold Machine.intake
  split
  · exact h.takeRequest p _ _ _
  split
  · exact h.takeMessage p _
  · exact .heard h

theorem PortsAlone.crcChar (p : Port) (err : Bool) (c : Byte) (a : Assembly) : Executes s (crcChar p err c a u) :=
  (h.modPort p _).intake p _ _

theorem PortsAlone.assemble (p : Port) (ch : RxChar) : Executes s (assemble p ch u) := by
  have hrx : ∀ rx, Executes s (u.setRx p rx) := fun rx => .heard (h.modPort p _)
  unfold Machine.assemble
  dsimp only
  split
  · unfold huntChar
    split
    · exact hrx _
    · exact .heard h
  split
  · unfold lenChar
    split
    · exact hrx _
    · exact hrx _
  split
  · exact h.crcChar p _ _ _
  · exact hrx _

theorem PortsAlone.completeMessage (p : Port) (ch : RxChar) : Executes s (completeMessage p ch u) := by
  unfold Machine.completeMessage
  split
  · exact .heard h
  split
  · exact (h.modPort p _).crcChar p _ _ _
  · exact .heard h

theorem PortsAlone.takeAnswerSent (p : Port) : Executes s (takeAnswerSent p u) := by
  have h1 := h.modPort p (fun x => { x with slot := .free, buffer := none })
  unfold Machine.takeAnswerSent endAnswer
  dsimp only
  split
  · exact .heard h
  · exact .heard h
  split
  · exact .heard h1
  · exact .executed h1 p _

end Messages

end Sys2Proof.Machine
end

section
/-! SUPPORT. R33 to R39, R41, R44: which holds the resolution of a doorway's record reads, and that a write of the table
within a scope leaves the records of every other doorway as the table gives them. -/

namespace Sys2Proof.Machine

open Claims Safety

/-! ### The holds in force over a doorway -/

/-- R7: the hold is in force over doorway d. -/
def Hold.inForceOver (d : Door) (h : Hold) : Bool := has h.scope d && h.inForce

/-- 2.2: the holds in force over a doorway, slot by slot in ascending order. -/
theorem holdsOver_eq (s : State) (d : Door) :
    s.holdsOver d = (List.finRange 64).filterMap (fun i => (s.hold i).filter (Hold.inForceOver d)) := by
  have hslots : s.slots.toList = (List.finRange 64).map s.slot := by
    refine List.ext_getElem (by simp) (fun n h1 h2 => ?_)
    simp [State.slot]
  rw [State.holdsOver, hslots, List.filterMap_map, List.filter_filterMap]
  rfl

/-- R33 to R39: the resolution reads handle, issuer, kind, level and limit of the holds in force, and whether the side's
line hold stands. -/
theorem resolve_of_map {s t : State} {d : Door} {g : Hold → Hold}
    (hg : ∀ h, (g h).handle = h.handle ∧ (g h).issuer = h.issuer ∧ (g h).kind = h.kind ∧ (g h).level = h.level ∧
      (g h).limit = h.limit)
    (hover : t.holdsOver d = (s.holdsOver d).map g)
    (hrln : (t.hold (rlnSlot (sideOf d))).isSome = (s.hold (rlnSlot (sideOf d))).isSome)
    (hcfg : t.cfg = s.cfg) (href : (t.chan d).referenced = (s.chan d).referenced) : t.resolve d = s.resolve d := by
  obtain ⟨hhandle, hissuer, hkind, hlevel, hlimit⟩ :
      (∀ h, (g h).handle = h.handle) ∧ (∀ h, (g h).issuer = h.issuer) ∧ (∀ h, (g h).kind = h.kind) ∧
      (∀ h, (g h).level = h.level) ∧ ∀ h, (g h).limit = h.limit := by
    simp only [hg, implies_true, and_self]
  have hrel : t.released d = s.released d := by
    simp only [State.released, hrln, hcfg, hover, List.any_map, Function.comp_def, hissuer, hkind]
  have htop : ∀ l : List Hold, topLevel (l.map g) = topLevel l := fun l => by
    simp only [topLevel, List.foldl_map, hlevel]
  have hopen : ∀ n (l : List Hold), openTarget n (l.map g) = openTarget n l := fun n l => by
    simp only [openTarget, List.foldl_map, hlimit]
  unfold State.resolve
  simp only [hrel, hcfg, href, hover, List.filter_map, List.find?_map, List.head?_map, Function.comp_def, hkind, hlevel,
    htop, hopen]
  generalize (s.holdsOver d).filter (fun h => h.kind == .isolate) = iso
  generalize (s.holdsOver d).filter (fun h => h.kind == .opens || h.kind == .closes) = oc
  generalize oc.filter (fun h => h.level == topLevel oc) = atTop
  cases (s.holdsOver d).find? (fun h => h.kind == .egress) with
  | some h => simp only [Option.map_some, hhandle]
  | none =>
  cases iso.find? (fun h => h.level == topLevel iso) with
  | some h => simp only [Option.map_none, Option.map_some, hhandle]
  | none =>
  cases atTop.find? (fun h => h.kind == .closes) with
  | some h => simp only [Option.map_none, Option.map_some, hhandle]
  | none => cases atTop.head? <;> simp only [Option.map_none, Option.map_some, hhandle]

/-- The record is the same where the same holds are in force. -/
theorem resolve_of_over {s t : State} {d : Door}
    (hover : ∀ i, (t.hold i).filter (Hold.inForceOver d) = (s.hold i).filter (Hold.inForceOver d))
    (hrln : (t.hold (rlnSlot (sideOf d))).isSome = (s.hold (rlnSlot (sideOf d))).isSome)
    (hcfg : t.cfg = s.cfg) (href : (t.chan d).referenced = (s.chan d).referenced) : t.resolve d = s.resolve d := by
  refine resolve_of_map (g := id) (fun _ => ⟨rfl, rfl, rfl, rfl, rfl⟩) ?_ hrln hcfg href
  rw [holdsOver_eq, holdsOver_eq, List.map_id]
  simp only [hover]

/-- R24: the hold once a countdown start for doorway d has been taken. -/
def Hold.startCountdown (d : Door) (h : Hold) : Hold :=
  if h.countdown = .waiting ∧ h.scope = single d then { h with countdown := .running } else h

theorem hold_startCountdowns (s : State) (d : Door) (i : SlotNo) :
    (s.startCountdowns d).hold i = (s.hold i).map (Hold.startCountdown d) := by
  rw [State.hold, State.slot_startCountdowns, Slot.startCountdown, State.hold]
  cases hs : (s.slot i).hold with
  | none => simp [hs]
  | some a =>
    dsimp only
    split
    · rename_i hw
      rw [Option.map_some, Hold.startCountdown, if_pos hw]
    · rename_i hw
      rw [hs, Option.map_some, Hold.startCountdown, if_neg hw]

/-- R24, R46: a countdown start changes no record. -/
theorem resolve_startCountdowns (s : State) (d e : Door) : (s.startCountdowns d).resolve e = s.resolve e := by
  have hcases : ∀ h : Hold, h.startCountdown d = h ∨ h.startCountdown d = { h with countdown := .running } := fun h => by
    unfold Hold.startCountdown
    split
    · exact .inr rfl
    · exact .inl rfl
  have hsame : ∀ h : Hold, (h.startCountdown d).inForceOver e = h.inForceOver e := fun h => by
    rcases hcases h with k | k
    · rw [k]
    · rw [k]; rfl
  refine resolve_of_map (g := Hold.startCountdown d) (fun h => ?_) ?_ ?_ rfl rfl
  · rcases hcases h with k | k <;> rw [k] <;> exact ⟨rfl, rfl, rfl, rfl, rfl⟩
  · rw [holdsOver_eq, holdsOver_eq, List.map_filterMap]
    refine List.filterMap_congr (fun i _ => ?_)
    rw [hold_startCountdowns]
    cases s.hold i with
    | none => rfl
    | some a =>
      simp only [Option.map_some, Option.filter_some, hsame]
      split <;> rfl
  · rw [hold_startCountdowns, Option.isSome_map]

/-! ### Writes of the table within a scope -/

/-- Every hold that stands is over doorways of the scope alone. -/
def Covers (sc : DoorSet) (o : Option Hold) : Prop := ∀ a, o = some a → ∀ d, has a.scope d = true → has sc d = true

theorem covers_none (sc : DoorSet) : Covers sc none := nofun

theorem covers_some {sc : DoorSet} {a : Hold} (h : ∀ d, has a.scope d = true → has sc d = true) : Covers sc (some a) :=
  fun b hb => by cases hb; exact h

/-- A hold over no doorway but those of the scope is not in force over another. -/
theorem Covers.filter {sc : DoorSet} {o : Option Hold} (h : Covers sc o) {d : Door} (hd : has sc d = false) :
    o.filter (Hold.inForceOver d) = none := by
  cases o with
  | none => rfl
  | some a =>
    have hn : has a.scope d = false := by
      cases hs : has a.scope d
      · rfl
      · rw [h a rfl d hs] at hd
        cases hd
    simp [Hold.inForceOver, hn]

/-- Where slot i is that of a side's line hold, the scope has the doorways of the side. -/
def CoversSide (sc : DoorSet) (i : SlotNo) : Prop := ∀ d, i = rlnSlot (sideOf d) → has sc d = true

theorem coversSide_of_pool {sc : DoorSet} {i : SlotNo} (h : isPool i = true) : CoversSide sc i := by
  have hn : ∀ d : Door, isPool (rlnSlot (sideOf d)) = false := by decide
  rintro d rfl
  rw [hn d] at h
  cases h

theorem coversSide_of_role (i : SlotNo) : CoversSide (slotRole i).scope i := by
  have h : ∀ d : Door, has (slotRole (rlnSlot (sideOf d))).scope d = true := by decide
  rintro d rfl
  exact h d

/-- R10: the hold of a side's line is over the doorways of the side. -/
theorem coversSide_of_hold {s : State} (hT : TableOk s) {sc : DoorSet} {i : SlotNo} {a : Hold}
    (hi : s.hold i = some a) (hc : Covers sc (s.hold i)) : CoversSide sc i := by
  intro d hd
  have hrole : ∀ d : Door, (slotRole (rlnSlot (sideOf d))).issuer = some .rln := by decide
  obtain ⟨hsound, _⟩ := ((slotOk_iff s i).mp (hT.1 i)).1 a hi
  have hscope := ((roleOk_of_fixed (hd ▸ hrole d) a).mp hsound.role).2
  exact hc a hi d (hscope ▸ coversSide_of_role i d hd)

/-- Nothing but the slots and the notices differs, and the slots differ by holds over the scope alone. -/
structure Within (sc : DoorSet) (s u : State) : Prop where
  rest : u.noSlots = s.noSlots
  holds : ∀ d, has sc d = false → ∀ i, (u.hold i).filter (Hold.inForceOver d) = (s.hold i).filter (Hold.inForceOver d)
  line : ∀ d, has sc d = false → (u.hold (rlnSlot (sideOf d))).isSome = (s.hold (rlnSlot (sideOf d))).isSome

namespace Within
variable {sc : DoorSet} {s u v : State}

theorem refl (sc : DoorSet) (s : State) : Within sc s s := ⟨rfl, fun _ _ _ => rfl, fun _ _ => rfl⟩

/-- One slot written within the scope. -/
theorem write {i : SlotNo} (h : Within sc s u) (hrest : v.noSlots = u.noSlots) (hne : ∀ j, j ≠ i → v.hold j = u.hold j)
    (hold : Covers sc (u.hold i)) (hnew : Covers sc (v.hold i)) (hline : CoversSide sc i) : Within sc s v := by
  refine ⟨hrest.trans h.rest, fun d hd j => ?_, fun d hd => ?_⟩
  · rw [← h.holds d hd j]
    by_cases hj : j = i
    · subst hj
      rw [hold.filter hd, hnew.filter hd]
    · rw [hne j hj]
  · rw [← h.line d hd, hne]
    rintro rfl
    rw [hline d rfl] at hd
    cases hd

theorem setHold {i : SlotNo} {a : Hold} (h : Within sc s u) (hold : Covers sc (u.hold i)) (hnew : Covers sc (some a))
    (hline : CoversSide sc i) : Within sc s (u.setHold i a) :=
  h.write rfl (fun j hj => State.hold_setHold_ne u i j a hj) hold (by rw [State.hold_setHold]; exact hnew) hline

theorem fillSlot {i : SlotNo} {a : Hold} (h : Within sc s u) (hold : Covers sc (u.hold i)) (hnew : Covers sc (some a))
    (hline : CoversSide sc i) : Within sc s (u.fillSlot i a) := by
  refine h.write rfl (fun j hj => ?_) hold ?_ hline
  · rw [State.hold, State.slot_fillSlot, if_neg hj, State.hold]
  · rw [State.hold, State.slot_fillSlot, if_pos rfl]
    exact hnew

/-- R26: the examination retires the hold of its slot at most. -/
theorem examine {i : SlotNo} (h : Within sc s u) (hold : Covers sc (u.hold i)) (hline : CoversSide sc i) :
    Within sc s (examine i u) := by
  refine h.write (State.noSlots_examine u i) (fun j hj => ?_) hold ?_ hline
  · rw [State.hold, slot_examine_of_ne u hj, State.hold]
  · rw [State.hold, slot_examine]
    split
    · split
      · exact covers_none sc
      · exact hold
    · exact hold

theorem resolve (h : Within sc s u) {d : Door} (hd : has sc d = false) : u.resolve d = s.resolve d := by
  have hsame := SameToDoors.of_noSlots h.rest
  exact resolve_of_over (h.holds d hd) (h.line d hd) hsame.cfg (by rw [hsame.chan])

end Within

theorem hold_retireSlot (s : State) (i j : SlotNo) (r : Reason) (own : Bool) :
    (s.retireSlot i r own).hold j = if j = i then none else s.hold j := by
  rw [State.hold, State.slot_retireSlot]
  split
  · cases hi : s.hold i with
    | none => exact hi
    | some a => rfl
  · rfl

theorem hold_retireSlots (is : List SlotNo) (s : State) (j : SlotNo) (r : Reason) (own : Bool) :
    (s.retireSlots is r own).hold j = if j ∈ is then none else s.hold j := by
  induction is generalizing s with
  | nil => simp [State.retireSlots]
  | cons i is ih =>
    rw [State.retireSlots, List.foldl_cons, ← State.retireSlots, ih, hold_retireSlot]
    by_cases hm : j ∈ is
    · simp [hm]
    · simp [hm]

/-- R18: holds retired together change no record outside their scopes. -/
theorem within_retireSlots {s : State} (hT : TableOk s) (is : List SlotNo) (r : Reason) (own : Bool) :
    Within (s.scopeOf is) s (s.retireSlots is r own) := by
  have hcov : ∀ i, i ∈ is → Covers (s.scopeOf is) (s.hold i) := fun i hi a ha d hd =>
    (has_scopeOf s is d).mpr ⟨i, hi, a, ha, hd⟩
  refine ⟨State.noSlots_retireSlots s is r own, fun d hd i => ?_, fun d hd => ?_⟩
  · rw [hold_retireSlots]
    split
    · rename_i hi
      rw [(hcov i hi).filter hd]
      rfl
    · rfl
  · rw [hold_retireSlots]
    split
    · rename_i hi
      cases ha : s.hold (rlnSlot (sideOf d)) with
      | none => rfl
      | some a =>
        rw [coversSide_of_hold hT ha (hcov _ hi) d rfl] at hd
        cases hd
    · rfl

end Sys2Proof.Machine
end

section
/-! SUPPORT. R41, R43, R76: what makes a doorway heed its demand record, and which events leave every doorway heeding:
those at a channel, and those at the table. -/

namespace Sys2Proof.Machine

open Claims Safety

/-- An unfitted doorway is UNFITTED; a fitted one obeys its record, and waits where its entry into RUN is
outstanding. -/
structure Heeds (d : Door) (s : State) : Prop where
  unfitted : s.fitted d = false → (s.chan d).state = .unfitted
  firm : s.fitted d = true → Firm d s
  waits : s.sent.contains (.channelRunEntry d) = true → s.fitted d = true → Waits (s.chan d)

theorem heeds_iff (d : Door) (s : State) : Heeds d s ↔ doorObeys s d ∧ entryWaits s d := by
  unfold doorObeys entryWaits
  constructor
  · intro h
    refine ⟨?_, h.waits⟩
    split
    · rename_i hf
      obtain ⟨h1, h2, h3⟩ := h.firm hf
      exact ⟨h1 hf, h2, h3⟩
    · rename_i hf
      exact h.unfitted (by simpa using hf)
  · rintro ⟨hobeys, hwaits⟩
    refine ⟨fun hf => ?_, fun hf => ?_, hwaits⟩
    · rwa [if_neg (by simp [hf])] at hobeys
    · rw [if_pos hf] at hobeys
      obtain ⟨h1, h2, h3⟩ := hobeys
      exact ⟨fun _ => h1, h2, h3⟩

section Doorway
variable {d e : Door} {s t : State}

/-- A doorway whose state and record stand, with a record that is still the table's. -/
theorem Heeds.of_same (h : Heeds d s) (hst : (t.chan d).state = (s.chan d).state) (hd : t.demand d = s.demand d)
    (hr : t.resolve d = s.resolve d) (hf : t.fitted d = s.fitted d)
    (he : t.sent.contains (.channelRunEntry d) = true → s.sent.contains (.channelRunEntry d) = true) : Heeds d t := by
  refine ⟨fun k => ?_, fun k => ?_, fun k1 k2 => ?_⟩
  · rw [hst]
    exact h.unfitted (hf ▸ k)
  · have hs := h.firm (hf ▸ k)
    refine hs.of_state (fun k => ?_) hst hd
    rw [hd, hr]
    exact hs.fresh (hf ▸ k)
  · unfold Waits
    rw [hst]
    exact h.waits (he k1) (hf ▸ k2)

theorem Heeds.of_agree (h : Heeds d s) (k : Agree d s t) : Heeds d t :=
  h.of_same (by rw [k.chan]) k.demand k.resolve (k.fitted d) (fun he => k.entry ▸ he)

/-- What one doorway writes leaves another heeding. -/
theorem Heeds.other (h : Heeds e s) (hb : t.blank d = s.blank d) (hne : e ≠ d) : Heeds e t :=
  h.of_agree (agree_of_blank hb hne)

theorem entry_of_blank (hb : t.blank d = s.blank d) :
    t.sent.contains (.channelRunEntry d) = s.sent.contains (.channelRunEntry d) := by
  have hc : ∀ l : List Instr, l.contains (.channelRunEntry d) =
      (l.filter (fun c => !sentFrom d c)).contains (.channelRunEntry d) := fun l => by
    rw [Bool.eq_iff_iff]
    simp [sentFrom, route]
  rw [hc t.sent, sent_of_blank hb, ← hc]

/-- An event at a fitted doorway's channel. -/
theorem heeds_event (hfit : s.fitted d = true) (hb : t.blank d = s.blank d) (hfirm : Firm d t)
    (hw : s.sent.contains (.channelRunEntry d) = true → Waits (t.chan d)) (hs : ∀ e, Heeds e s) : ∀ e, Heeds e t := by
  intro e
  by_cases he : e = d
  · subst he
    have hf : t.fitted e = true := (State.fitted_of_bare (State.bare_of_blank hb) e).trans hfit
    exact ⟨fun k => (by rw [hf] at k; cases k), fun _ => hfirm, fun k _ => hw (entry_of_blank hb ▸ k)⟩
  · exact (hs e).other hb he

/-- What the lines, the ports and the Car Loop Unit write is nothing to a doorway. -/
theorem Heeds.of_blocks (h : Heeds d s) (hb : t.blocks = s.blocks) : Heeds d t := by
  have hcfg : t.cfg = s.cfg := (congrArg Blocks.cfg hb :)
  have hslots : t.slots = s.slots := (congrArg Blocks.slots hb :)
  have hchans : t.chans = s.chans := (congrArg Blocks.chans hb :)
  have hdemands : t.demands = s.demands := (congrArg Blocks.demands hb :)
  have hchan : t.chan d = s.chan d := by rw [State.chan, State.chan, hchans]
  refine h.of_same (by rw [hchan]) (by rw [State.demand, State.demand, hdemands]) ?_ (by rw [State.fitted, State.fitted, hcfg])
    (fun k => ?_)
  · have hh : ∀ i, t.hold i = s.hold i := fun i => by rw [State.hold, State.hold, State.slot, State.slot, hslots]
    exact resolve_of_over (fun i => by rw [hh]) (by rw [hh]) hcfg (by rw [hchan])
  · rw [← contains_entries, ← hb, contains_entries]
    exact k

/-- An event that is taken leaves fewer outstanding. -/
theorem Heeds.of_taken (h : Heeds d s) {c : Instr} (ht : s.takeSent c = some t) : Heeds d t := by
  obtain ⟨r, hr, rfl⟩ := State.takeSent_eq ht
  refine h.of_same rfl rfl rfl rfl (fun k => ?_)
  rw [List.contains_iff_mem] at k ⊢
  exact (sublist_of_takeFirst hr).subset k

/-- A channel whose state and reference stand. -/
theorem heeds_modChan {f : Channel → Channel} (hst : ∀ c, (f c).state = c.state)
    (hr : ∀ c, (f c).referenced = c.referenced) (hs : ∀ e, Heeds e s) : ∀ e, Heeds e (s.modChan d f) := by
  intro e
  by_cases he : e = d
  · subst he
    exact (hs e).of_same (by rw [State.chan_modChan, hst]) rfl
      (State.resolve_congr e (State.bare_of_blank (State.blank_modChan e s f)) (by rw [State.chan_modChan, hr])) rfl id
  · exact (hs e).other (State.blank_modChan d s f) he

/-! ### Channels that have yet to enter RUN (R75, R76, log 15) -/

/-- A fitted channel that is not in RUN waits: the part is in CONFIGURE, or its entry is outstanding. -/
theorem Heeds.waits_of_idle (h : Heeds d s) (hq : ConfigureQuiet s) (hf : s.fitted d = true)
    (hr : s.chanInRun d = false) : Waits (s.chan d) := by
  rcases (configureQuiet_iff s).mp hq with hm | hc
  · refine h.waits ?_ hf
    simpa [State.chanInRun, hm, hf] using hr
  · have hst := (hc.chan d).state
    rw [hf] at hst
    exact .inl hst

theorem not_chanInRun (h : s.sent.contains (.channelRunEntry d) = true) : s.chanInRun d = false := by
  unfold State.chanInRun
  rw [h, Bool.not_true, Bool.and_false]

@[simp] theorem state_clearReferenced : ((clearReferenced d s).chan d).state = (s.chan d).state := by
  unfold clearReferenced
  dsimp only
  split <;> simp

@[simp] theorem state_enterFaulted : ((enterFaulted d s).chan d).state = .faulted := by
  have h1 : ((clearReferenced d (enterState d .faulted .free false .off s)).chan d).state = .faulted := by
    rw [state_clearReferenced, state_enterState]
  exact h1

@[simp] theorem state_enterEgress : ((enterEgress d s).chan d).state = .egress := by
  have h1 : ((clearReferenced d ((enterState d .egress .free true .off s).modChan d
      (fun c => { c with plaus := none }))).chan d).state = .egress := by
    rw [state_clearReferenced, State.chan_modChan]
    exact state_enterState _ _ _ _
  exact h1

/-- R50, R75: a channel that is not in RUN checks no reference and acts on no record as it enters UNREFERENCED. -/
theorem enterUnreferenced_of_idle (h : s.chanInRun d = false) :
    enterUnreferenced d s = enterState d .unreferenced .free false .off s := by
  have h1 : (enterState d .unreferenced .free false .off s).chanInRun d = false := h
  rw [enterUnreferenced, h1]
  rfl

/-- R71, log 15: a channel that is not in RUN leaves EGRESS for FAULTED or UNREFERENCED. -/
theorem waits_exitEgress (h : s.chanInRun d = false) : Waits ((exitEgress d s).chan d) := by
  have h1 : (enterState d .unreferenced .free false .off s).chanInRun d = false := h
  have hend : ∀ u : State, u.chanInRun d = false →
      Waits ((if (u.chan d).fault.isSome = true then enterFaulted d u else enterUnreferenced d u).chan d) := fun u hu => by
    split
    · exact .inr (.inr state_enterFaulted)
    · rw [enterUnreferenced_of_idle hu]
      exact .inl (state_enterState _ _ _ _)
  simp only [exitEgress, h1, Bool.false_eq_true, if_false]
  exact hend _ h1

/-- Log 15: a record takes a waiting channel to EGRESS or from there, and nowhere else. -/
theorem waits_react {old : Demand} (hr : s.chanInRun d = false) (hw : Waits (s.chan d)) :
    Waits ((react d old s).chan d) := by
  unfold react
  dsimp only
  split
  · exact hw
  split
  · split
    · exact hw
    · exact .inr (.inl state_enterEgress)
  split
  · exact waits_exitEgress hr
  rw [hr]
  exact hw

theorem waits_atChannel {f : State → State} (h : Waits ((f s).chan d)) : Waits ((atChannel d f s).chan d) := by
  rcases atChannel_cases d f s with k | ⟨c, k⟩
  · rw [k]
    exact h
  · rw [k]
    exact h

theorem waits_recomputeDoor (hr : s.chanInRun d = false) (hw : Waits (s.chan d)) :
    Waits ((recomputeDoor d s).chan d) := by
  unfold recomputeDoor
  dsimp only
  split
  · exact hw
  split
  · exact hw
  · exact waits_atChannel (waits_react hr hw)

/-- R141: a fault cleared leaves a waiting channel waiting. -/
theorem waits_clearFaultAt (hr : s.chanInRun d = false) (hw : Waits (s.chan d)) :
    Waits ((clearFaultAt d s).chan d) := by
  have h1 : ∀ u : State, u.chanInRun d = false → Waits (u.chan d) →
      (startPlaus d u).chanInRun d = false ∧ Waits ((startPlaus d u).chan d) := fun u hu hwu => by
    unfold startPlaus
    split
    · refine ⟨hu, ?_⟩
      rw [State.chan_modChan]
      exact hwu
    · exact ⟨hu, hwu⟩
  have h2 := h1 ((s.modChan d (fun c => { c with fault := none })).modGuard d Guard.zeroRecord) hr (by
    rw [State.modGuard, State.setGuard_chan_of, State.chan_modChan]
    exact hw)
  unfold clearFaultAt
  dsimp only
  split
  · rw [enterUnreferenced_of_idle h2.1]
    exact .inl (state_enterState _ _ _ _)
  · exact h2.2

/-- R98: a waiting channel is neither STANDING nor OPEN_BLOCKED. -/
theorem waits_clearDoor (hw : Waits (s.chan d)) : Waits ((clearDoor d s).chan d) := by
  have hne : (s.chan d).state ≠ .standing ∧ (s.chan d).state ≠ .openBlocked := by
    rcases hw with h | h | h <;> rw [h] <;> decide
  unfold clearDoor
  dsimp only
  rw [if_neg hne.1, if_neg hne.2]
  exact hw

end Doorway

/-! ### Events at a channel -/

section Events
variable {d : Door} {s : State}

theorem chanInRun_fitted (h : s.chanInRun d = true) : s.fitted d = true := by
  simp only [State.chanInRun, Bool.and_eq_true] at h
  exact h.1.2

/-- An event at a channel that is in RUN. -/
theorem heeds_inRun {f : State → State} (hs : ∀ e, Heeds e s) (hb : (f s).blank d = s.blank d)
    (hfirm : Firm d s → Firm d (f s)) : ∀ e, Heeds e (inRun d f s) := by
  unfold inRun
  split
  · rename_i hr
    have hfit := chanInRun_fitted hr
    refine heeds_event hfit (blank_atChannel d s f hb) (hfirm ((hs d).firm hfit)).atChannel (fun k => ?_) hs
    rw [not_chanInRun k] at hr
    cases hr
  · exact hs

/-- R48, R49: a step. -/
theorem heeds_takeStep (hs : ∀ e, Heeds e s) (dir : Dir) : ∀ e, Heeds e (takeStep d dir s) := by
  cases hr : s.chanInRun d
  · unfold takeStep
    dsimp only
    split
    · exact hs
    · rw [hr]
      exact heeds_modChan (fun c => c.state_count dir) (fun c => c.referenced_count dir) hs
  · have hfit := chanInRun_fitted hr
    refine heeds_event hfit (blank_takeStep d s dir) (((hs d).firm hfit).takeStep dir) (fun k => ?_) hs
    rw [not_chanInRun k] at hr
    cases hr

/-- R76: the entry into RUN at a channel. -/
theorem heeds_takeRunEntry (hs : ∀ e, Heeds e s) : ∀ e, Heeds e (atChannel d (takeRunEntry d) s) := by
  cases hr : s.chanInRun d
  · have hid : takeRunEntry d s = s := by rw [takeRunEntry, hr]; rfl
    rw [atChannel, hid]
    simpa using hs
  · have hfit := chanInRun_fitted hr
    refine heeds_event hfit (blank_atChannel d s _ (blank_takeRunEntry d s)) ((hs d).firm hfit).takeRunEntry.atChannel
      (fun k => ?_) hs
    rw [not_chanInRun k] at hr
    cases hr

end Events

/-! ### Events at the table -/

section Table
variable {s u : State}

/-- R41, R43, R44: a recomputation of a scope, after a write that leaves every other record the table's. -/
theorem heeds_recompute {sc : DoorSet} (hq : ConfigureQuiet s) (hs : ∀ e, Heeds e s) (hn : u.noSlots = s.noSlots)
    (hr : ∀ d, has sc d = false → u.resolve d = s.resolve d) : ∀ d, Heeds d (recompute sc u) := by
  intro d
  have hsame := SameToDoors.of_noSlots hn
  cases hd : has sc d
  · refine Heeds.of_agree ?_ (agree_recompute_outside sc u d hd)
    exact (hs d).of_same (by rw [hsame.chan]) (hsame.demand d) (hr d hd) (hsame.fitted d) (fun k => hsame.sent ▸ k)
  · refine Heeds.of_agree ?_ (agree_recompute sc u d hd)
    cases hf : s.fitted d
    · have huf : u.fitted d = false := (hsame.fitted d).trans hf
      rw [recomputeDoor_of_unfitted huf]
      exact ⟨fun _ => by rw [hsame.chan]; exact (hs d).unfitted hf, fun k => (by rw [huf] at k; cases k),
        fun _ k => (by rw [huf] at k; cases k)⟩
    · have huf : u.fitted d = true := (hsame.fitted d).trans hf
      have hfirm := (hs d).firm hf
      have hidle : u.chanInRun d = false → Waits (u.chan d) := fun k => by
        rw [hsame.chan]
        refine (hs d).waits_of_idle hq hf ?_
        rwa [State.chanInRun, hsame.mode, hsame.fitted, hsame.sent] at k
      have hb := blank_recomputeDoor d u
      have htf := (State.fitted_of_bare (State.bare_of_blank hb) d).trans huf
      refine ⟨fun k => (by rw [htf] at k; cases k), fun _ => firm_recomputeDoor huf ?_ ?_ hidle, fun k _ => ?_⟩
      · rw [hsame.chan]
        exact hfirm.fitted
      · rw [hsame.chan, hsame.demand]
        exact hfirm.obeys
      · have hidle' := not_chanInRun (entry_of_blank hb ▸ k)
        exact waits_recomputeDoor hidle' (hidle hidle')

theorem heeds_within {sc : DoorSet} (hq : ConfigureQuiet s) (hs : ∀ e, Heeds e s) (h : Within sc s u) :
    ∀ d, Heeds d (recompute sc u) :=
  heeds_recompute hq hs h.rest (fun _ => h.resolve)

/-- A write of the table that changes no record needs no recomputation. -/
theorem heeds_of_resolve (hs : ∀ e, Heeds e s) (hn : u.noSlots = s.noSlots) (hr : ∀ d, u.resolve d = s.resolve d) :
    ∀ d, Heeds d u := fun d => by
  have hsame := SameToDoors.of_noSlots hn
  exact (hs d).of_same (by rw [hsame.chan]) (hsame.demand d) (hr d) (hsame.fitted d) (fun k => hsame.sent ▸ k)

end Table

/-- A sound table, CONFIGURE quiet, and every doorway heeding its record. -/
structure Minded (s : State) : Prop where
  table : TableOk s
  quiet : ConfigureQuiet s
  heeds : ∀ d, Heeds d s

section Minded
variable {s : State} (h : Minded s)
include h

theorem Minded.tableRetire (is : List SlotNo) (r : Reason) (own : Bool) :
    ∀ d, Heeds d (tableRetire is r own s) :=
  heeds_within h.quiet h.heeds (within_retireSlots h.table is r own)

theorem Minded.startCountdowns (d : Door) : ∀ e, Heeds e (s.startCountdowns d) :=
  heeds_of_resolve h.heeds rfl (resolve_startCountdowns s d)

theorem Minded.takeExpiry (i : SlotNo) : ∀ d, Heeds d (takeExpiry i s) := by
  rw [takeExpiry_eq]
  exact h.tableRetire _ _ _

theorem Minded.takeChannelEntry (d : Door) (e : EntryKind) : ∀ x, Heeds x (takeChannelEntry d e s) := by
  have hw := within_retireSlots h.table (entrySlots d e) (entryReason e) false
  exact heeds_recompute h.quiet h.heeds hw.rest (fun x hx => (resolve_startCountdowns _ d x).trans (hw.resolve hx))

/-- A hold replaced in place, over a scope that has its doorways and those of the new hold. -/
theorem Minded.within_setHold {i : SlotNo} {a b : Hold} {sc : DoorSet} (ha : s.hold i = some a)
    (hold : ∀ d, has a.scope d = true → has sc d = true) (hnew : ∀ d, has b.scope d = true → has sc d = true) :
    Within sc s (s.setHold i b) ∧ CoversSide sc i := by
  have hc : Covers sc (s.hold i) := ha ▸ covers_some hold
  have hl := coversSide_of_hold h.table ha hc
  exact ⟨(Within.refl sc s).setHold hc (covers_some hnew) hl, hl⟩

theorem Minded.setHold {i : SlotNo} {a b : Hold} (ha : s.hold i = some a) (hb : b.scope = a.scope) :
    ∀ d, Heeds d (recompute a.scope (s.setHold i b)) :=
  heeds_within h.quiet h.heeds (h.within_setHold ha (fun _ => id) (fun _ hd => hb ▸ hd)).1

theorem Minded.createInternal {q : Placement} (hn : s.hold q.slot = none) : ∀ d, Heeds d (createInternal q s) := by
  obtain ⟨v, hv, hrest, hslots, _⟩ := createInternal_eq q s
  rw [hv]
  have hw : Within (slotRole q.slot).scope s (s.fillSlot q.slot (s.startAtOnce (Placement.newHold q s))) := by
    refine (Within.refl _ s).fillSlot (hn ▸ covers_none _) (covers_some (fun d hd => ?_)) (coversSide_of_role q.slot)
    rw [startAtOnce_eq] at hd
    exact hd
  have hhold : ∀ i, v.hold i = (s.fillSlot q.slot (s.startAtOnce (Placement.newHold q s))).hold i := fun i => by
    rw [State.hold, State.hold, State.slot, State.slot, hslots]
  exact heeds_within h.quiet h.heeds ⟨hrest, fun d hd i => by rw [hhold]; exact hw.holds d hd i,
    fun d hd => by rw [hhold]; exact hw.line d hd⟩

theorem Minded.renewInternal {q : Placement} {a : Hold} (ha : s.hold q.slot = some a) :
    ∀ d, Heeds d (renewInternal q a s) := h.setHold ha (by rw [startAtOnce_eq]; rfl)

theorem Minded.takePlacement (q : Placement) : ∀ d, Heeds d (takePlacement q s) := by
  have hs := h.heeds
  have hbar : ∀ (b : Bool) (u : State), (∀ d, Heeds d u) → ∀ d, Heeds d (if b = true then s else u) := fun b u hu => by
    cases b
    · exact hu
    · exact hs
  unfold Machine.takePlacement
  split
  · exact hs
  cases hh : s.hold q.slot with
  | none =>
    have hc := h.createInternal hh
    cases slotRole q.slot with
    | pool => exact hs
    | grd d => exact hbar _ _ hc
    | hdl d | pnl d | rln sd => exact hc
  | some a =>
    have hc := h.renewInternal hh
    cases slotRole q.slot with
    | pool | hdl d => exact hs
    | grd d => exact hbar _ _ hc
    | pnl d | rln sd => exact hc

theorem Minded.takeRaise (i : SlotNo) : ∀ d, Heeds d (takeRaise i s) := by
  unfold Machine.takeRaise
  cases ha : s.hold i with
  | none => exact h.heeds
  | some a =>
    dsimp only
    split
    · exact h.heeds
    cases slotRole i with
    | pnl d => exact h.setHold ha (by rw [startAtOnce_eq])
    | hdl d => exact h.setHold ha rfl
    | rln sd | grd d | pool => exact h.heeds

end Minded

end Sys2Proof.Machine
end

section
/-! SUPPORT. R41, R43, R76: the requests leave every doorway heeding its demand record. -/

namespace Sys2Proof.Machine

open Claims Safety

/-! ### A part without holds (R30, R75, R77) -/

/-- No hold stands, every channel is in UNREFERENCED or UNFITTED, and every record is at rest. -/
structure Poised (s : State) : Prop where
  empty : ∀ i, s.hold i = none
  state : ∀ d, (s.chan d).state = if s.fitted d then .unreferenced else .unfitted
  demand : ∀ d, s.demand d = .resting

/-- R33, R38: an empty table demands CLOSED of every doorway, without a governing hold. -/
theorem resolve_of_empty {s : State} (h : ∀ i, s.hold i = none) (d : Door) : s.resolve d = .resting := by
  have hover : s.holdsOver d = [] := by simp [holdsOver_eq, h]
  have hrel : s.released d = false := by simp [State.released, h]
  simp [State.resolve, hover, hrel, Demand.resting]

theorem Poised.heeds {s : State} (h : Poised s) (d : Door) : Heeds d s := by
  have hst := h.state d
  refine ⟨fun hf => ?_, fun hf => ?_, fun _ hf => .inl ?_⟩
  · simpa [hf] using hst
  · rw [if_pos hf] at hst
    have hshut : Shut d s := ⟨by rw [hst]; decide, by rw [hst]; rfl⟩
    exact hshut.firm (fun _ => (h.demand d).trans (resolve_of_empty h.empty d).symm)
  · simpa [hf] using hst

theorem Calm.poised {s : State} (h : Calm s) : Poised s := ⟨h.empty, fun d => (h.chan d).state, h.demand⟩

theorem Calm.heeds {s : State} (h : Calm s) (d : Door) : Heeds d s := h.poised.heeds d

/-- R179: the entry into RUN of a part without holds. -/
theorem Poised.enterRun {s : State} (h : Poised s) : Poised (enterRun s) := ⟨h.empty, h.state, h.demand⟩

/-- CONFIGURE reads nothing of the lines and the ports, nor of what is sent. -/
theorem calm_closed : LinksClosed {s | Calm s} where
  still _ _ hs ht := Calm.still hs ht
  send _ _ hs _ := { (hs : Calm _) with }

/-- R159: a write leaves a part in CONFIGURE calm. -/
theorem Calm.writeConfig {s : State} (h : Calm s) (offset : Nat) (data : List Byte) :
    Calm (writeConfig offset data s) := by
  have h1 : HalfCalm s.cfg doors { s with cfg := s.cfg.patch offset data } :=
    ⟨h.mode, h.empty, fun d => .inr ⟨mem_doors d, h.chan d⟩, h.demand, h.guard⟩
  have h2 := mem_foldl (P := {s | Calm s}) (fun u c hu => mem_applyClass calm_closed hu s.cfg c)
    [LineClass.release, .panel, .edge, .switch, .drive] (HalfCalm.foldl doors h1)
  exact mem_applySup calm_closed (mem_applySup calm_closed h2 .t) .s

/-! ### The requests at the table (Chapter 1) -/

section Requests
variable {s : State} (h : Minded s)
include h

/-- R13: a placement in a free slot of the pool. -/
theorem Minded.placeIn (a : PlaceAsked) (x : Issuer) {i : SlotNo} (hi : s.lowestFree = some i) :
    ∀ d, Heeds d (placeIn a x i s).1 := by
  obtain ⟨hpool, hn⟩ := lowestFree_spec hi
  have hnew : Covers a.scope (some (s.startAtOnce (a.newHold x i s))) := covers_some (fun d hd => by
    rw [startAtOnce_eq] at hd
    exact hd)
  have hfill := (Within.refl a.scope s).fillSlot (i := i) (hn ▸ covers_none _) hnew (coversSide_of_pool hpool)
  refine heeds_within h.quiet h.heeds (hfill.examine ?_ (coversSide_of_pool hpool))
  rw [State.hold, State.slot_fillSlot, if_pos rfl]
  exact hnew

theorem Minded.doPlace (x : Issuer) (q : PlaceParams) : ∀ d, Heeds d (doPlace x q s).1 := by
  unfold Machine.doPlace
  cases placeAsked q with
  | none => exact h.heeds
  | some a =>
    dsimp only
    split
    · exact h.heeds
    split
    · exact h.heeds
    split
    · exact h.heeds
    split
    · exact h.heeds
    cases hf : s.lowestFree with
    | none => exact h.heeds
    | some i => exact h.placeIn a x hf

/-- A request that names a hold, where it names one. -/
theorem Minded.onLive {hd : Handle} {f : SlotNo → Hold → State × Reply}
    (hf : ∀ i a, s.hold i = some a → ∀ d, Heeds d (f i a).1) : ∀ d, Heeds d (onLive hd s f).1 := by
  unfold Machine.onLive
  cases hr : s.resolveHandle hd with
  | live i a => exact hf i a (hold_of_live hr)
  | retired r => exact h.heeds
  | stale => exact h.heeds

/-- R16, R41: an amendment, over both scopes. -/
theorem Minded.amendIn (a : AmendAsked) {i : SlotNo} {b : Hold} (hb : s.hold i = some b) :
    ∀ d, Heeds d (amendIn a i b s) := by
  have hold : ∀ d, has b.scope d = true → has (b.scope ||| (a.applied b).scope) d = true := fun d hd =>
    (has_or _ _ d).mpr (.inl hd)
  have hnew : ∀ d, has (if a.scope.isSome then s.startAtOnce (a.applied b) else a.applied b).scope d = true →
      has (b.scope ||| (a.applied b).scope) d = true := fun d hd => by
    refine (has_or _ _ d).mpr (.inr ?_)
    split at hd
    · rwa [startAtOnce_eq] at hd
    · exact hd
  obtain ⟨hw, hside⟩ := h.within_setHold hb hold hnew
  refine heeds_within h.quiet h.heeds (hw.examine ?_ hside)
  rw [State.hold_setHold]
  exact covers_some hnew

theorem Minded.doAmend (x : Issuer) (q : AmendParams) : ∀ d, Heeds d (doAmend x q s).1 := by
  unfold Machine.doAmend
  cases amendAsked q with
  | none => exact h.heeds
  | some a =>
    refine h.onLive (fun i b hb => ?_)
    dsimp only
    split
    · exact h.heeds
    split
    · exact h.heeds
    split
    · exact h.heeds
    · exact h.amendIn a hb

theorem Minded.doRenew (x : Issuer) (hd : Handle) (l : Half) : ∀ d, Heeds d (doRenew x hd l s).1 := by
  unfold Machine.doRenew
  cases lifetimeOfHalf l with
  | none => exact h.heeds
  | some n =>
    refine h.onLive (fun i b hb => ?_)
    split
    · exact h.heeds
    · exact h.setHold hb rfl

theorem Minded.doRetire (x : Issuer) (hd : Handle) : ∀ d, Heeds d (doRetire x hd s).1 := by
  refine h.onLive (fun i b _ => ?_)
  split
  · exact h.heeds
  split
  · exact h.heeds
  · exact h.tableRetire _ _ _

theorem Minded.doWithdraw (x : Issuer) (k : Byte) : ∀ d, Heeds d (doWithdraw x k s).1 := by
  unfold Machine.doWithdraw
  cases filterOf kindOfByte k with
  | none => exact h.heeds
  | some o => exact h.tableRetire _ _ _

/-! ### The requests at the doorways (R98, R141) -/

omit h in
/-- R98: one doorway cleared. -/
theorem heeds_clearDoor {d : Door} (hfit : s.fitted d = true) (hs : ∀ e, Heeds e s) :
    ∀ e, Heeds e (atChannel d (clearDoor d) s) :=
  heeds_event hfit (blank_atChannel d s _ (blank_clearDoor d s)) ((hs d).firm hfit).clearDoor.atChannel
    (fun k => waits_atChannel (waits_clearDoor ((hs d).waits k hfit))) hs

omit h in
theorem heeds_doClearObstruction (hs : ∀ e, Heeds e s) (sc : DoorSet) :
    ∀ d, Heeds d (doClearObstruction sc s).1 := by
  unfold doClearObstruction
  split
  · exact hs
  dsimp only
  refine (mem_foldl (P := {u | u.fitted = s.fitted ∧ ∀ d, Heeds d u}) (fun u d hu => ?_) doors ⟨rfl, hs⟩).2
  obtain ⟨hfit, hheeds⟩ := hu
  split
  · rename_i hd
    obtain ⟨_, hd⟩ := Bool.and_eq_true_iff.mp hd
    refine ⟨funext (fun e => ?_), heeds_clearDoor (by rw [hfit]; exact hd) hheeds⟩
    rw [State.fitted_of_bare (State.bare_of_blank (blank_atChannel d u _ (blank_clearDoor d u))), hfit]
  · exact ⟨hfit, hheeds⟩

omit h in
/-- R141: one doorway of the request. -/
theorem heeds_clearFaultDoor (d : Door) {x : State × DoorSet × DoorSet} (hs : ∀ e, Heeds e x.1) :
    ∀ e, Heeds e (clearFaultDoor d x).1 := by
  unfold clearFaultDoor
  cases hc : clearOutcome x.1 d with
  | persists => exact hs
  | notFaulted => exact hs
  | cleared =>
    have hfit : x.1.fitted d = true := by
      by_contra hno
      have hst := (hs d).unfitted (by simpa using hno)
      simp [clearOutcome, hst] at hc
    exact heeds_event hfit (blank_atChannel d x.1 _ (blank_clearFaultAt d x.1))
      ((hs d).firm hfit).clearFaultAt.atChannel
      (fun k => waits_atChannel (waits_clearFaultAt (not_chanInRun k) ((hs d).waits k hfit))) hs

omit h in
theorem heeds_doClearFault (hs : ∀ e, Heeds e s) (sc : DoorSet) : ∀ d, Heeds d (doClearFault sc s).1 := by
  have hfold : ∀ (l : List Door) (x : State × DoorSet × DoorSet), (∀ d, Heeds d x.1) →
      ∀ d, Heeds d (l.foldl (fun x d => if has sc d then clearFaultDoor d x else x) x).1 := by
    intro l
    induction l with
    | nil => exact fun _ hx => hx
    | cons d l ih =>
      intro x hx
      refine ih _ ?_
      dsimp only
      split
      · exact heeds_clearFaultDoor d hx
      · exact hx
  unfold doClearFault
  split
  · exact hs
  · exact hfold doors _ hs

/-! ### The other requests -/

omit h in
theorem heeds_doPanel (hs : ∀ e, Heeds e s) (side action : Byte) : ∀ d, Heeds d (doPanel side action s).1 := by
  have hpanel : ∀ (u : State) (sd : Side) (on : Bool), (panelTo sd on u).blocks = u.blocks := fun u sd on => by
    unfold panelTo
    split
    · cases sd <;> rfl
    · rw [blocks_send _ rfl]
      cases sd <;> rfl
  unfold doPanel
  split
  · exact fun d => (hs d).of_blocks (hpanel s _ _)
  · exact hs

omit h in
/-- R27: a collection clears marks, which no record reads. -/
theorem heeds_doCollectNotices (hs : ∀ e, Heeds e s) (p : Port) : ∀ d, Heeds d (doCollectNotices p s).1 := by
  obtain ⟨sl, hsl⟩ := clearMarks_eq (markedSlots s p) s
  have hhold : ∀ i, (s.clearMarks (markedSlots s p)).hold i = s.hold i := fun i => by
    rw [State.hold, slot_clearMarks]
    split <;> rfl
  have hclear : ∀ d, Heeds d (s.clearMarks (markedSlots s p)) :=
    heeds_of_resolve hs (by rw [hsl]; rfl)
      (fun d => resolve_of_over (fun i => by rw [hhold]) (by rw [hhold]) (by rw [hsl]) (by rw [hsl]; rfl))
  exact fun d => (hclear d).of_blocks (blocks_modPort _ p _)

omit h in
theorem heeds_doSurvey (hs : ∀ e, Heeds e s) (a x k : Byte) : ∀ d, Heeds d (doSurvey a x k s).1 := by
  unfold doSurvey
  split
  · split
    · exact hs
    · exact fun d => (hs d).of_blocks rfl
  · exact hs

omit h in
theorem heeds_doDoorwayReport (hs : ∀ e, Heeds e s) (sc : DoorSet) : ∀ d, Heeds d (doDoorwayReport sc s).1 := by
  unfold doDoorwayReport
  split
  · exact hs
  · exact fun d => (hs d).of_blocks rfl

omit h in
theorem Calm.heeds_doConfigWrite (hc : Calm s) (offset : Half) (data : List Byte) :
    ∀ d, Heeds d (doConfigWrite offset data s).1 := by
  unfold doConfigWrite
  split
  · split
    · exact hc.heeds
    · exact (hc.writeConfig _ _).heeds
  · exact hc.heeds

omit h in
theorem Calm.heeds_doStartRun (hc : Calm s) : ∀ d, Heeds d (doStartRun s).1 := by
  unfold doStartRun
  split
  · exact hc.heeds
  · exact hc.poised.enterRun.heeds

/-- R145: of the requests, those that write the configuration or the mode are admitted in CONFIGURE alone. -/
theorem Minded.calm {k : RequestKind} (hk : k.allowedIn s.mode = true) (hrun : k.allowedIn .run = false) : Calm s := by
  rcases (configureQuiet_iff s).mp h.quiet with hm | hc
  · rw [hm, hrun] at hk
    cases hk
  · exact hc

/-- R145, R147: a request that the mode admits. -/
theorem Minded.perform {k : RequestKind} (hk : k.allowedIn s.mode = true) (p : Port) (x : Issuer) (b : List Byte) :
    ∀ d, Heeds d (perform k p x b s).1 := by
  have hs := h.heeds
  cases k with
  | place => exact h.doPlace x _
  | amend => exact h.doAmend x _
  | renew => exact h.doRenew x _ _
  | retire => exact h.doRetire x _
  | withdraw => exact h.doWithdraw x _
  | survey => exact heeds_doSurvey hs _ _ _
  | doorwayReport => exact heeds_doDoorwayReport hs _
  | clearObstruction => exact heeds_doClearObstruction hs _
  | clearFault => exact heeds_doClearFault hs _
  | panel => exact heeds_doPanel hs _ _
  | collectNotices => exact heeds_doCollectNotices hs p
  | noticeMask => exact fun d => (hs d).of_blocks (blocks_modPort s p (fun x => { x with mask := paramAt b 0 }))
  | lookup | carReport | configStore => exact fun d => (hs d).of_blocks rfl
  | configRead => exact mem_doConfigRead (P := {s | ∀ d, Heeds d s}) hs _ _
  | configWrite => exact (h.calm hk rfl).heeds_doConfigWrite _ _
  | startRun => exact (h.calm hk rfl).heeds_doStartRun
  | presence | restart => exact hs

/-! ### Execution (R145, R147, R168 to R170) -/

theorem Minded.checked (p : Port) (kind : Byte) (b : List Byte) : ∀ d, Heeds d (checked p kind b s).1 := by
  unfold Machine.checked
  split
  · exact h.heeds
  split
  · exact h.heeds
  split
  · exact h.heeds
  split
  · exact h.heeds
  · rename_i hmode _
    exact h.perform (by simpa using hmode) p _ b

/-- The parts of a state that a doorway or the table does not read may differ. -/
theorem Minded.of_blocks {t : State} (hb : t.blocks = s.blocks) (hk : SameBlocks s t) : Minded t :=
  ⟨tableOk_closed.links.still s t h.table hk, quiet_closed.still s t h.quiet hk, fun d => (h.heeds d).of_blocks hb⟩

/-- R170: a loss taken before the request of its port. -/
theorem Minded.settleLoss (p : Port) : Minded (settleLoss p s) := by
  have hdrop : Minded { s with sent := s.sent.filter (fun e => e != .linkLost p) } := by
    refine h.of_blocks ?_ ⟨rfl, rfl, rfl, rfl, rfl, rfl, rfl, List.filter_sublist.subset⟩
    simp only [State.blocks, List.filter_filter, Blocks.mk.injEq, true_and]
    refine List.filter_congr (fun e _ => ?_)
    cases e <;> simp [isRunEntry]
  unfold Machine.settleLoss
  split
  · refine ⟨mem_tableRetire tableOk_closed hdrop.table _ _ _, ?_, hdrop.tableRetire _ _ _⟩
    rcases (configureQuiet_iff _).mp hdrop.quiet with hm | hc
    · exact (configureQuiet_iff _).mpr (.inl (mem_tableRetire mode_closed hm _ _ _))
    · rw [takeLinkLost, hc.tableRetire]
      exact hc.quiet
  · exact h

omit h in
theorem blocks_reply (p : Port) (kind seq : Byte) (x : State × ReplyForm) :
    (reply p kind seq x).blocks = x.1.blocks := by
  unfold reply
  split
  · exact blocks_formAnswer _ _ _ _ _ _
  · exact blocks_modPort _ _ _
  · exact blocks_formAnswer _ _ _ _ _ _

/-- R168, R169: a message executed. -/
theorem Minded.execute (p : Port) (m : Message) : ∀ d, Heeds d (execute p m s) := by
  unfold Machine.execute
  split
  · exact fun d => (h.heeds d).of_blocks (blocks_formAnswer _ _ _ _ _ _)
  · exact fun d => ((h.settleLoss p).checked p _ _ d).of_blocks (blocks_reply _ _ _ _)

/-- What a port does with what it hears. -/
theorem Minded.executes {t : State} (ht : Executes s t) : ∀ d, Heeds d t := by
  cases ht with
  | heard hp => exact fun d => (h.heeds d).of_blocks hp.blocks
  | executed hp p m =>
    refine Minded.execute (h.of_blocks hp.blocks ?_) p m
    obtain ⟨x, y, rfl⟩ := hp
    exact ⟨rfl, rfl, rfl, rfl, rfl, rfl, rfl, List.Subset.refl _⟩

end Requests

end Sys2Proof.Machine
end

section
/-! PROOF. Every step keeps the demands: a part in RUN whose doorways heed their records stays one (R41, R43, R76). -/

namespace Sys2Proof.Machine

open Claims Safety

/-! ### A start, and the held part (R180, R181) -/

theorem poised_startPart (c : ResetCause) (s : State) : Poised (startPart c s) := by
  unfold startPart
  generalize loadPart c (cutStore s) = u
  have h : Poised (startBlocks u) := by
    refine ⟨fun i => ?_, fun d => ?_, fun d => ?_⟩
    · simp [State.hold, State.slot, startBlocks, Slot.start]
    · have hc : (startBlocks u).chan d = startChannel u d := by simp [State.chan, startBlocks]
      rw [hc]
      rfl
    · simp [State.demand, startBlocks]
  unfold autoRun
  split
  · exact h.enterRun
  · exact h

section Dispatch
variable {s t : State} {d : Door}

theorem heeds_holdPart (hs : ∀ d, Heeds d s) : ∀ d, Heeds d (holdPart s) := fun d => by
  have hchan : ∀ d, (holdPart s).chan d = (s.chan d).held := fun d => by
    unfold holdPart cutStart cutStore
    split <;> split <;> simp [State.chan]
  have hrest : (holdPart s).slots = s.slots ∧ (holdPart s).cfg = s.cfg ∧ (holdPart s).demands = s.demands := by
    unfold holdPart cutStart cutStore
    split <;> split <;> exact ⟨rfl, rfl, rfl⟩
  obtain ⟨hslots, hcfg, hdemands⟩ := hrest
  have hhold : ∀ i, (holdPart s).hold i = s.hold i := fun i => by
    rw [State.hold, State.slot, hslots, State.hold, State.slot]
  refine (hs d).of_same (by rw [hchan]; rfl) (by rw [State.demand, hdemands, State.demand]) ?_
    (by rw [State.fitted, hcfg, State.fitted]) nofun
  exact resolve_of_over (fun i => by rw [hhold]) (by rw [hhold]) hcfg (by rw [hchan]; rfl)

/-! ### The forms of a command (log 5) -/

theorem heeds_act {f : State → State} (hs : ∀ d, Heeds d s) (hf : ∀ d, Heeds d (f s)) (ht : act s f = .next t) :
    ∀ d, Heeds d t := by
  cases hr : s.running
  · rw [act_of_held f hr] at ht
    cases ht
    exact hs
  · rw [act_of_running f hr] at ht
    cases ht
    exact fun d => (hf d).of_blocks (blocks_settle _)

/-- A state from which an event has been taken. -/
theorem Minded.taken {u : State} (h : Minded s) {c : Instr} (hu : s.takeSent c = some u) : Minded u :=
  ⟨mem_takeSent tableOk_closed.links h.table hu, mem_takeSent quiet_closed h.quiet hu, fun d => (h.heeds d).of_taken hu⟩

/-- An event that one block sends another. -/
theorem Minded.actSent {c : Instr} {f : State → State} (h : Minded s) (hf : ∀ u, Minded u → ∀ d, Heeds d (f u))
    (ht : actSent s c f = .next t) : ∀ d, Heeds d t := by
  refine heeds_act h.heeds ?_ ht
  cases hk : s.takeSent c with
  | none => exact h.heeds
  | some u => exact hf u (h.taken hk)

/-- A command that a doorway does not read. -/
theorem heeds_act_blocks {f : State → State} (hs : ∀ d, Heeds d s) (hf : (f s).blocks = s.blocks)
    (ht : act s f = .next t) : ∀ d, Heeds d t := heeds_act hs (fun d => (hs d).of_blocks hf) ht

/-- An event of the lines or the Car Loop Unit that a doorway does not read. -/
theorem Minded.actSent_blocks {c : Instr} {f : State → State} (h : Minded s) (hf : ∀ u, (f u).blocks = u.blocks)
    (ht : Machine.actSent s c f = .next t) : ∀ d, Heeds d t :=
  h.actSent (fun u hu d => (hu.heeds d).of_blocks (hf u)) ht

/-- An event at a channel or guard section writes its own doorway alone, and leaves it obeying its record. -/
structure FirmStep (d : Door) (s t : State) : Prop where
  blank : t.blank d = s.blank d
  firm : Firm d s → Firm d t

theorem FirmStep.refl (d : Door) (s : State) : FirmStep d s s := ⟨rfl, id⟩

theorem FirmStep.ite {u v : State} (b : Bool) (hu : FirmStep d s u) (hv : FirmStep d s v) :
    FirmStep d s (if b = true then u else v) := by
  cases b
  · exact hv
  · exact hu

/-- A timer of a channel or guard section. -/
theorem heeds_act_inRun {f : State → State} (hs : ∀ d, Heeds d s) (hf : FirmStep d s (f s))
    (ht : act s (inRun d f) = .next t) : ∀ e, Heeds e t := heeds_act hs (heeds_inRun hs hf.blank hf.firm) ht

/-- An event of the lines at a channel or guard section. -/
theorem Minded.actSent_inRun {c : Instr} {f : State → State} (h : Minded s) (hf : ∀ u, FirmStep d u (f u))
    (ht : Machine.actSent s c (inRun d f) = .next t) : ∀ e, Heeds e t :=
  h.actSent (fun u hu => heeds_inRun hu.heeds (hf u).blank (hf u).firm) ht

theorem heeds_execEncoderStep {dir : Dir} (hs : ∀ d, Heeds d s) (ht : execEncoderStep d dir s = .next t) :
    ∀ e, Heeds e t := by
  have h1 : ∀ e, Heeds e (s.modChan d (·.turnEncoder dir)) :=
    heeds_modChan (fun c => by unfold Channel.turnEncoder; split <;> rfl)
      (fun c => by unfold Channel.turnEncoder; split <;> rfl) hs
  cases ht
  split
  · exact fun e => (heeds_takeStep h1 dir e).of_blocks (blocks_settle _)
  · exact h1

theorem heeds_execIllegalTransition (hs : ∀ d, Heeds d s) (ht : execIllegalTransition d s = .next t) :
    ∀ e, Heeds e t := by
  have h1 : ∀ e, Heeds e (s.modChan d Channel.crossEncoder) := heeds_modChan (fun _ => rfl) (fun _ => rfl) hs
  cases ht
  split
  · exact fun e => (heeds_inRun h1 (blank_detectCause d _ _) (·.detectCause _) e).of_blocks (blocks_settle _)
  · exact h1

/-! ### Every command -/

/-- R41, R43, R76: a command leaves every doorway heeding its record. -/
theorem heeds_exec (h : Minded s) {c : Instr} (ht : exec c s = .next t) : ∀ d, Heeds d t := by
  have hs := h.heeds
  cases c
  case presence | place | amend | renew | retire | withdraw | lookup | survey | doorwayReport | carReport |
      clearObstruction | clearFault | panel | collectNotices | noticeMask | configRead | configWrite | configStore |
      startRun | restart =>
    refine heeds_act hs ?_ ht
    split
    · exact h.executes (((PortsAlone.refl s).modPort _ _).takeRequest _ _ _ _)
    · exact hs
  case storeCompletion => exact heeds_act_blocks hs (blocks_takeStoreCompletion s) ht
  case messageCompletion p ch => exact heeds_act hs (h.executes ((PortsAlone.refl s).completeMessage p ch)) ht
  case messageAbandoned p =>
    exact heeds_act_blocks (f := fun s => s.setRx p none) hs (blocks_modPort s p (fun x => { x with rx := none })) ht
  case answerSent p =>
    have ht : execAnswerSent p s = .next t := ht
    unfold execAnswerSent at ht
    split at ht
    · cases ht
      exact (poised_startPart _ _).heeds
    · exact heeds_act hs (h.executes ((PortsAlone.refl s).takeAnswerSent p)) ht
  case supervisionIntervalExpiry p => exact heeds_act_blocks hs (blocks_supIntervalEnd s p) ht
  case supervisionGraceExpiry p => exact heeds_act_blocks hs (blocks_supGraceEnd s p) ht
  case characterReceived p ch =>
    exact heeds_act hs (h.executes (((PortsAlone.refl s).modPort p _).assemble p ch)) ht
  case powerOn =>
    have ht : execPowerOn s = .next t := ht
    unfold execPowerOn at ht
    cases ht
    split
    · exact heeds_holdPart (fun d => (hs d).of_blocks rfl)
    · exact (poised_startPart _ _).heeds
  case resetLineReleased =>
    have ht : execResetLineReleased s = .next t := ht
    unfold execResetLineReleased at ht
    cases ht
    split
    · exact (poised_startPart _ _).heeds
    · exact fun d => (hs d).of_blocks rfl
  case resetLineAsserted | supplyLoss =>
    cases ht
    exact heeds_holdPart (fun d => (hs d).of_blocks rfl)
  case channelRunEntry d => exact h.actSent (fun u hu => heeds_takeRunEntry hu.heeds) ht
  case lineInputRunEntry => exact h.actSent_blocks (fun u => blocks_takeLineRunEntry u) ht
  case lineAcceptance l lv => exact fun d => (hs d).of_blocks (blocks_execLineAcceptance s ht)
  case lineSample c levels => exact fun d => (hs d).of_blocks (blocks_execLineSample s ht)
  case internalPlacement q => exact h.actSent (fun u hu => hu.takePlacement q) ht
  case raise i => exact h.actSent (fun u hu => hu.takeRaise i) ht
  case lineDroppedRetirement | panelOffRetirement | linkLost | provenEvent =>
    exact h.actSent (fun u hu => hu.tableRetire _ _ _) ht
  case expiry i => exact heeds_act hs (h.takeExpiry i) ht
  case countdownStart d => exact h.actSent (fun u hu => hu.startCountdowns d) ht
  case channelEntryAtTable d e => exact h.actSent (fun u hu => hu.takeChannelEntry d e) ht
  case encoderStep d dir => exact heeds_execEncoderStep hs ht
  case illegalTransition d => exact heeds_execIllegalTransition hs ht
  case clsAcceptedAtChannel d lv =>
    exact h.actSent_inRun (fun u => .ite _ ⟨blank_clsMade d u, (·.clsMade)⟩ ⟨blank_clsBroken d u, (·.clsBroken)⟩) ht
  case lksAcceptedAtChannel d lv =>
    exact h.actSent_inRun (fun u => .ite _ ⟨blank_lksMade d u, (·.lksMade)⟩ ⟨blank_lksBroken d u, (·.lksBroken)⟩) ht
  case bfltAcceptedAtChannel d lv =>
    exact h.actSent_inRun (fun u => .ite _ ⟨blank_detectCause d u .bridge, (·.detectCause .bridge)⟩ (.refl d u)) ht
  case edgeAcceptedAtGuard d lv =>
    exact h.actSent_inRun (fun u => .ite _ ⟨blank_edgeAsserted d u, (·.edgeAsserted)⟩ (.refl d u)) ht
  case frcAcceptedAtGuard d lv =>
    exact h.actSent_inRun (fun u => .ite _ ⟨blank_forceAsserted d u, (·.forceAsserted)⟩ (.refl d u)) ht
  case stallIntervalExpiry d => exact heeds_act_inRun hs ⟨blank_stallIntervalEnd d s, (·.stallIntervalEnd)⟩ ht
  case stallGraceExpiry d => exact heeds_act_inRun hs ⟨blank_stallGraceEnd d s, (·.stallGraceEnd)⟩ ht
  case warningIntervalExpiry d => exact heeds_act_inRun hs ⟨blank_warningEnd d s, (·.warningEnd)⟩ ht
  case reversalPauseExpiry d => exact heeds_act_inRun hs ⟨blank_pauseEnd d s, (·.pauseEnd)⟩ ht
  case travelTimerExpiry d => exact heeds_act_inRun hs ⟨blank_travelEnd d s, (·.travelEnd)⟩ ht
  case unlockWaitExpiry d => exact heeds_act_inRun hs ⟨blank_unlockWaitEnd d s, (·.unlockWaitEnd)⟩ ht
  case lockWaitExpiry d => exact heeds_act_inRun hs ⟨blank_lockWaitEnd d s, (·.lockWaitEnd)⟩ ht
  case retryWaitExpiry d => exact heeds_act_inRun hs ⟨blank_retryWaitEnd d s, (·.retryWaitEnd)⟩ ht
  case plausibilityTimerExpiry d => exact heeds_act_inRun hs ⟨blank_plausEnd d s, (·.plausEnd)⟩ ht
  case flashPhaseExpiry d =>
    exact heeds_act (f := fun s => s.modChan d (fun c => { c with lamp := c.lamp.toggle })) hs
      (heeds_modChan (fun _ => rfl) (fun _ => rfl) hs) ht
  case provenFlagUpdate d sw lv => exact h.actSent_blocks (fun u => blocks_takeCopies u d _) ht
  case channelStateAtClu d st => exact h.actSent_blocks (fun u => blocks_takeCopies u d _) ht
  case zspdAtClu lv => exact h.actSent_blocks (fun u => blocks_takeZspd u lv) ht
  case provingTimerExpiry => exact heeds_act_blocks hs (blocks_provingEnd s) ht

end Dispatch

/-- R75: in CONFIGURE the doorways heed their records, for there are no holds. -/
theorem minded_iff (s : State) : Minded s ↔ DemandsOk s := by
  constructor
  · exact fun h => ⟨h.table, h.quiet, fun _ d => (heeds_iff d s).mp (h.heeds d)⟩
  · rintro ⟨htable, hquiet, hrun⟩
    refine ⟨htable, hquiet, ?_⟩
    rcases (configureQuiet_iff s).mp hquiet with hm | hc
    · exact fun d => (heeds_iff d s).mpr (hrun hm d)
    · exact hc.heeds

/-- What every step keeps, every command keeps: it may be the next of the queue. -/
theorem kept_exec {Inv : State → Prop} (hk : Kept Inv) {s t : State} {c : Instr}
    (hq : Inv { s with pending := c :: s.pending }) (ht : exec c s = .next t) : Inv t :=
  hk _ t hq ((step_cons rfl).trans ht)

/-- Settles O58, by the doorways that heed their records: every command leaves the table sound, CONFIGURE quiet, and
each doorway heeding. -/
theorem stepsKeepTheDemands : Obligations.StepsKeepTheDemands := by
  refine kept_of_exec (fun s l h => h.pending l) (fun c s t hs ht => ?_)
  rw [← minded_iff] at hs ⊢
  exact ⟨kept_exec kept_tableOk (hs.table.pending _) ht, kept_exec stepsKeepConfigureQuiet (hs.quiet.pending _) ht,
    heeds_exec hs ht⟩

end Sys2Proof.Machine
end

section
/-! PROOF. The demand record is read off the holds in force over a doorway, slot by slot (R33 to R39). -/

namespace Sys2Proof.Machine

open Claims Safety

/-! ### The greatest of a list -/

/-- The greatest value of a list is at most b where the first value and each of the list are. -/
theorem foldl_max_le_iff {α β : Type} [LinearOrder β] (f : α → β) (l : List α) (a b : β) :
    l.foldl (fun m x => max m (f x)) a ≤ b ↔ a ≤ b ∧ ∀ x ∈ l, f x ≤ b := by
  induction l generalizing a with
  | nil => simp
  | cons x l ih =>
    rw [List.foldl_cons, ih, max_le_iff, List.forall_mem_cons, and_assoc]

/-- It is the first value or one of the list. -/
theorem foldl_max_mem {α β : Type} [LinearOrder β] (f : α → β) (l : List α) (a : β) :
    l.foldl (fun m x => max m (f x)) a = a ∨ ∃ x ∈ l, l.foldl (fun m x => max m (f x)) a = f x := by
  induction l generalizing a with
  | nil => exact .inl rfl
  | cons x l ih =>
    rw [List.foldl_cons]
    rcases ih (max a (f x)) with h | ⟨y, hy, h⟩
    · rcases max_choice a (f x) with k | k
      · exact .inl (h.trans k)
      · exact .inr ⟨x, List.mem_cons_self, h.trans k⟩
    · exact .inr ⟨y, List.mem_cons_of_mem x hy, h⟩

/-- The top level is that of a hold that no other exceeds. -/
theorem topLevel_eq {l : List Hold} {h : Hold} (hl : h ∈ l) (hmax : ∀ g ∈ l, g.level ≤ h.level) :
    topLevel l = h.level :=
  le_antisymm ((foldl_max_le_iff Hold.level l 0 _).mpr ⟨Fin.zero_le _, hmax⟩)
    (((foldl_max_le_iff Hold.level l 0 _).mp le_rfl).2 h hl)

/-- R39: the open target is that of one of the holds, and no other exceeds it. -/
theorem openTarget_spec (n : Nat) {l : List Hold} (hl : l ≠ []) :
    (∃ g ∈ l, openTarget n l = g.limit.getD n) ∧ ∀ g ∈ l, g.limit.getD n ≤ openTarget n l := by
  have hle : ∀ g ∈ l, g.limit.getD n ≤ openTarget n l :=
    ((foldl_max_le_iff (fun h : Hold => h.limit.getD n) l 0 _).mp le_rfl).2
  refine ⟨?_, hle⟩
  rcases foldl_max_mem (fun h : Hold => h.limit.getD n) l 0 with hz | hm
  · obtain ⟨g, hg⟩ := List.exists_mem_of_ne_nil l hl
    exact ⟨g, hg, (hz : openTarget n l = 0).trans (Nat.le_zero.mp (hz ▸ hle g hg)).symm⟩
  · exact hm

/-! ### The holds in force over a doorway, by their slots -/

/-- R7: the hold of slot i is in force over doorway d. -/
def State.ForceAt (s : State) (d : Door) (i : SlotNo) (h : Hold) : Prop :=
  s.hold i = some h ∧ has h.scope d = true ∧ h.level ≠ 0

section Slots
variable {s : State} {d : Door} {p : Hold → Bool}

theorem filter_eq_some {i : SlotNo} {h : Hold} :
    (s.hold i).filter (Hold.inForceOver d) = some h ↔ s.ForceAt d i h := by
  simp [Option.filter_eq_some_iff, State.ForceAt, Hold.inForceOver, Hold.inForce]

theorem mem_holdsOver {h : Hold} : h ∈ s.holdsOver d ↔ ∃ i, s.ForceAt d i h := by
  simp only [holdsOver_eq, List.mem_filterMap, List.mem_finRange, true_and, filter_eq_some]

theorem find?_holdsOver_eq_none : (s.holdsOver d).find? p = none ↔ ∀ j g, s.ForceAt d j g → p g = false := by
  simp only [List.find?_eq_none, mem_holdsOver, Bool.not_eq_true]
  exact ⟨fun h j g hg => h g ⟨j, hg⟩, fun h g ⟨j, hg⟩ => h j g hg⟩

/-- The first of the holds in force is that of the lowest slot. -/
theorem find?_holdsOver_eq_some {i : SlotNo} {h : Hold} (hf : s.ForceAt d i h) (hp : p h = true)
    (hmin : ∀ j g, s.ForceAt d j g → p g = true → i ≤ j) : (s.holdsOver d).find? p = some h := by
  have hfirst : (List.finRange 64).find? (fun j => ((s.hold j).filter (Hold.inForceOver d)).any p) = some i := by
    rw [← Fin.find?_eq_find?_finRange, Fin.find?_eq_some_iff]
    refine ⟨by rw [filter_eq_some.mpr hf]; exact hp, fun j hj => ?_⟩
    rw [← Bool.not_eq_true, Option.any_eq_true]
    rintro ⟨g, hg, hpg⟩
    exact absurd (hmin j g (filter_eq_some.mp hg) hpg) (not_le_of_gt hj)
  rw [holdsOver_eq, List.find?_filterMap, hfirst, Option.bind_some, filter_eq_some.mpr hf]

/-- The top level of the holds of a sort, where one of them is known to have it. -/
theorem topLevel_filter_eq {i : SlotNo} {h : Hold} (hf : s.ForceAt d i h) (hp : p h = true)
    (hmax : ∀ j g, s.ForceAt d j g → p g = true → g.level ≤ h.level) :
    topLevel ((s.holdsOver d).filter p) = h.level := by
  refine topLevel_eq (List.mem_filter.mpr ⟨mem_holdsOver.mpr ⟨i, hf⟩, hp⟩) (fun g hg => ?_)
  obtain ⟨hg, hpg⟩ := List.mem_filter.mp hg
  obtain ⟨j, hj⟩ := mem_holdsOver.mp hg
  exact hmax j g hj hpg

end Slots

/-! ### The record, case by case -/

/-- R37: an ISOLATE hold. -/
def Hold.isolates (h : Hold) : Bool := h.kind == .isolate

/-- R38: an OPEN or CLOSE hold. -/
def Hold.moves (h : Hold) : Bool := h.kind == .opens || h.kind == .closes

/-- R38: the OPEN and CLOSE holds in force at their top level. -/
def State.movers (s : State) (d : Door) : List Hold :=
  ((s.holdsOver d).filter Hold.moves).filter (fun h => h.level == topLevel ((s.holdsOver d).filter Hold.moves))

/-- A record without a target, of a released doorway or not. -/
def plainRecord (k : DemandKind) (gov : Option Handle) (rel : Bool) (blocked : Bool) : Demand :=
  { kind := k, gov := gov, target := none, released := rel, blocked := blocked }

section Cases
variable {s : State} {d : Door} {h : Hold}

theorem resolve_of_egress (he : (s.holdsOver d).find? (fun h => h.kind == .egress) = some h) :
    s.resolve d = plainRecord .egress (some h.handle) (s.released d) false := by
  simp only [State.resolve, he]
  rfl

variable (he : (s.holdsOver d).find? (fun h => h.kind == .egress) = none)
include he

theorem resolve_of_isolate (hi : ((s.holdsOver d).filter Hold.isolates).find?
    (fun h => h.level == topLevel ((s.holdsOver d).filter Hold.isolates)) = some h) :
    s.resolve d = plainRecord .isolated (some h.handle) (s.released d) false := by
  unfold Hold.isolates at hi
  simp only [State.resolve, he, hi]
  rfl

variable (hi : ((s.holdsOver d).filter Hold.isolates).find?
    (fun h => h.level == topLevel ((s.holdsOver d).filter Hold.isolates)) = none)
include hi

theorem resolve_of_closes (hc : (s.movers d).find? (fun h => h.kind == .closes) = some h) :
    s.resolve d = plainRecord .closes (some h.handle) (s.released d) false := by
  unfold Hold.isolates at hi
  unfold State.movers Hold.moves at hc
  simp only [State.resolve, he, hi, hc]
  rfl

theorem resolve_of_opens (hc : (s.movers d).find? (fun h => h.kind == .closes) = none)
    (ho : (s.movers d).head? = some h) : s.resolve d = if s.released d && (s.chan d).referenced then
      { kind := .opens, gov := some h.handle, target := some (openTarget (s.cfg.openEnd d) (s.movers d))
        released := s.released d, blocked := false }
    else plainRecord .closes (some h.handle) (s.released d) true := by
  unfold Hold.isolates at hi
  unfold State.movers Hold.moves at hc ho ⊢
  simp only [State.resolve, he, hi, hc, ho]
  rfl

theorem resolve_of_rest (ho : s.movers d = []) :
    s.resolve d = plainRecord .closes none (s.released d) false := by
  unfold Hold.isolates at hi
  unfold State.movers Hold.moves at ho
  simp only [State.resolve, he, hi, ho, List.find?_nil, List.head?_nil]
  rfl

end Cases

/-! ### The record by the slots -/

section Record
variable {s : State} {d : Door} {i : SlotNo} {h : Hold}

/-- R36. -/
theorem released_iff : s.released d = true ↔ s.hold (rlnSlot (sideOf d)) ≠ none ∧
    (s.cfg.relMode = .lineAndLink → ∃ i h, s.ForceAt d i h ∧ h.issuer = .trn ∧ h.kind = .release) := by
  rw [State.released, Bool.and_eq_true, Option.isSome_iff_ne_none]
  refine and_congr_right (fun _ => ?_)
  cases s.cfg.relMode with
  | lineOnly => simp
  | lineAndLink =>
    simp only [List.any_eq_true, mem_holdsOver, Bool.and_eq_true, beq_iff_eq, true_implies]
    exact ⟨fun ⟨h, ⟨i, hi⟩, hx⟩ => ⟨i, h, hi, hx⟩, fun ⟨i, h, hi, hx⟩ => ⟨h, ⟨i, hi⟩, hx⟩⟩

/-- The hold is an OPEN or CLOSE hold, and no such hold in force is above it. -/
def State.TopMover (s : State) (d : Door) (h : Hold) : Prop :=
  (h.kind = .opens ∨ h.kind = .closes) ∧
    ∀ j g, s.ForceAt d j g → (g.kind = .opens ∨ g.kind = .closes) → g.level ≤ h.level

theorem moves_iff : h.moves = true ↔ h.kind = .opens ∨ h.kind = .closes := by simp [Hold.moves]

/-- The holds at the top level, where one of them is known. -/
theorem movers_eq (hf : s.ForceAt d i h) (ht : s.TopMover d h) :
    s.movers d = (s.holdsOver d).filter (fun g => g.moves && g.level == h.level) := by
  have htop : topLevel ((s.holdsOver d).filter Hold.moves) = h.level :=
    topLevel_filter_eq hf (moves_iff.mpr ht.1) (fun j g hg hp => ht.2 j g hg (moves_iff.mp hp))
  rw [State.movers, htop, List.filter_filter]
  simp only [Bool.and_comm]

/-- They are the top movers in force. -/
theorem topMover_iff {j : SlotNo} {g : Hold} (hf : s.ForceAt d i h) (ht : s.TopMover d h) (hg : s.ForceAt d j g) :
    (g.moves && g.level == h.level) = true ↔ s.TopMover d g := by
  rw [Bool.and_eq_true, beq_iff_eq, moves_iff]
  constructor
  · rintro ⟨hm, hl⟩
    exact ⟨hm, fun k x hx hxm => (ht.2 k x hx hxm).trans_eq hl.symm⟩
  · rintro ⟨hm, hmax⟩
    exact ⟨hm, le_antisymm (ht.2 j g hg hm) (hmax i h hf ht.1)⟩

theorem resolve_egress (hf : s.ForceAt d i h) (hk : h.kind = .egress)
    (hmin : ∀ j g, s.ForceAt d j g → g.kind = .egress → i ≤ j) :
    s.resolve d = plainRecord .egress (some h.handle) (s.released d) false :=
  resolve_of_egress (find?_holdsOver_eq_some hf (beq_iff_eq.mpr hk) (fun j g hg hp => hmin j g hg (beq_iff_eq.mp hp)))

variable (hne : ∀ j g, s.ForceAt d j g → g.kind ≠ .egress)
include hne

omit hne in
theorem find?_kind_eq_none {k : HoldKind} (hk : ∀ j g, s.ForceAt d j g → g.kind ≠ k) :
    (s.holdsOver d).find? (fun h => h.kind == k) = none :=
  find?_holdsOver_eq_none.mpr (fun j g hg => beq_false_of_ne (hk j g hg))

theorem resolve_isolate (hf : s.ForceAt d i h) (hk : h.kind = .isolate)
    (hmin : ∀ j g, s.ForceAt d j g → g.kind = .isolate → g.level < h.level ∨ (g.level = h.level ∧ i ≤ j)) :
    s.resolve d = plainRecord .isolated (some h.handle) (s.released d) false := by
  have htop : topLevel ((s.holdsOver d).filter Hold.isolates) = h.level :=
    topLevel_filter_eq hf (beq_iff_eq.mpr hk) (fun j g hg hp =>
      (hmin j g hg (beq_iff_eq.mp hp)).elim le_of_lt (fun hx => le_of_eq hx.1))
  refine resolve_of_isolate (find?_kind_eq_none hne) ?_
  rw [htop, List.find?_filter]
  refine find?_holdsOver_eq_some hf (by simp [Hold.isolates, hk]) (fun j g hg hp => ?_)
  simp only [Hold.isolates, beq_iff_eq, decide_eq_true_eq] at hp
  obtain ⟨hgk, hgl⟩ := hp
  rcases hmin j g hg hgk with hlt | ⟨_, hle⟩
  · exact absurd hgl (ne_of_lt hlt)
  · exact hle

variable (hni : ∀ j g, s.ForceAt d j g → g.kind ≠ .isolate)
include hni

omit hne in
theorem find?_isolates_eq_none (n : HoldLevel) :
    ((s.holdsOver d).filter Hold.isolates).find? (fun h => h.level == n) = none := by
  rw [List.find?_filter]
  exact find?_holdsOver_eq_none.mpr (fun j g hg => by simp [Hold.isolates, hni j g hg])

theorem resolve_closes (hf : s.ForceAt d i h) (hk : h.kind = .closes) (ht : s.TopMover d h)
    (hmin : ∀ j g, s.ForceAt d j g → g.kind = .closes → s.TopMover d g → i ≤ j) :
    s.resolve d = plainRecord .closes (some h.handle) (s.released d) false := by
  refine resolve_of_closes (find?_kind_eq_none hne) (find?_isolates_eq_none hni _) ?_
  rw [movers_eq hf ht, List.find?_filter]
  refine find?_holdsOver_eq_some hf ?_ (fun j g hg hp => ?_)
  · exact decide_eq_true ⟨(topMover_iff hf ht hf).mpr ht, beq_iff_eq.mpr hk⟩
  · obtain ⟨hgt, hgk⟩ := of_decide_eq_true hp
    exact hmin j g hg (beq_iff_eq.mp hgk) ((topMover_iff hf ht hg).mp hgt)

theorem resolve_opens (hf : s.ForceAt d i h) (ht : s.TopMover d h)
    (hmin : ∀ j g, s.ForceAt d j g → s.TopMover d g → g.kind = .opens ∧ i ≤ j) :
    s.resolve d = if s.released d && (s.chan d).referenced then
      { kind := .opens, gov := some h.handle, target := some (openTarget (s.cfg.openEnd d) (s.movers d))
        released := s.released d, blocked := false }
    else plainRecord .closes (some h.handle) (s.released d) true := by
  refine resolve_of_opens (find?_kind_eq_none hne) (find?_isolates_eq_none hni _) ?_ ?_
  · rw [movers_eq hf ht, List.find?_filter]
    refine find?_holdsOver_eq_none.mpr (fun j g hg => decide_eq_false (fun hp => ?_))
    have hgk := (hmin j g hg ((topMover_iff hf ht hg).mp hp.1)).1
    rw [hgk] at hp
    cases hp.2
  · rw [movers_eq hf ht, List.head?_filter]
    exact find?_holdsOver_eq_some hf ((topMover_iff hf ht hf).mpr ht)
      (fun j g hg hp => (hmin j g hg ((topMover_iff hf ht hg).mp hp)).2)

theorem resolve_rest (hm : ∀ j g, s.ForceAt d j g → ¬ (g.kind = .opens ∨ g.kind = .closes)) :
    s.resolve d = plainRecord .closes none (s.released d) false := by
  refine resolve_of_rest (find?_kind_eq_none hne) (find?_isolates_eq_none hni _) ?_
  have hnil : (s.holdsOver d).filter Hold.moves = [] := List.filter_eq_nil_iff.mpr (fun g hg hp => by
    obtain ⟨j, hj⟩ := mem_holdsOver.mp hg
    exact hm j g hj (moves_iff.mp hp))
  rw [State.movers, hnil]
  rfl

omit hne hni in
/-- R39: the target, where a top mover is known. -/
theorem openTarget_movers (n : Nat) (hf : s.ForceAt d i h) (ht : s.TopMover d h) :
    (∃ j g, s.ForceAt d j g ∧ s.TopMover d g ∧ openTarget n (s.movers d) = g.limit.getD n) ∧
    ∀ j g, s.ForceAt d j g → s.TopMover d g → g.limit.getD n ≤ openTarget n (s.movers d) := by
  have hmem : ∀ g, g ∈ s.movers d ↔ ∃ j, s.ForceAt d j g ∧ s.TopMover d g := fun g => by
    rw [movers_eq hf ht, List.mem_filter, mem_holdsOver]
    exact ⟨fun ⟨⟨j, hj⟩, hp⟩ => ⟨j, hj, (topMover_iff hf ht hj).mp hp⟩,
      fun ⟨j, hj, hg⟩ => ⟨⟨j, hj⟩, (topMover_iff hf ht hj).mpr hg⟩⟩
  obtain ⟨⟨g, hg, heq⟩, hle⟩ := openTarget_spec n (List.ne_nil_of_mem ((hmem h).mpr ⟨i, hf, ht⟩))
  obtain ⟨j, hj, hgt⟩ := (hmem g).mp hg
  exact ⟨⟨j, g, hj, hgt, heq⟩, fun j g hj hg => hle g ((hmem g).mpr ⟨j, hj, hg⟩)⟩

end Record

/-- Settles O32, by the first hold in force of each sort: the lowest slot of the top level. -/
theorem recordFollowsTheHoldsInForce : Obligations.RecordFollowsTheHoldsInForce := by
  intro s d
  refine ⟨released_iff, fun i h hf hk hmin => resolve_egress hf hk hmin, fun hne =>
    ⟨fun i h hf hk hmin => resolve_isolate hne hf hk hmin, fun hni =>
      ⟨fun i h hf hk ht hmin => resolve_closes hne hni hf hk ht hmin, fun i h hf _ ht hmin => ?_,
        fun hm => resolve_rest hne hni hm⟩⟩⟩
  have hres := resolve_opens hne hni hf ht hmin
  obtain ⟨hone, hle⟩ := openTarget_movers (s.cfg.openEnd d) hf ht
  refine ⟨fun hno => ?_, fun hrel href => ⟨_, ?_, hone, hle⟩⟩
  · rw [hres, if_neg (by simpa using hno)]
    rfl
  · rw [hres, if_pos (by simp [hrel, href])]

end Sys2Proof.Machine
end

section
/-! SUPPORT. R54 to R71: what an entry of a channel writes at its doorway, no line hindering, as one rule for each
entry, and what the rules say of an event at one channel (R72). -/

namespace Sys2Proof.Machine

open Claims Safety

/-! ### An event at one channel -/

section AtChannel
variable (d : Door) (f : State → State) (s : State)

@[simp] theorem chan_atChannel (e : Door) : (atChannel d f s).chan e = (f s).chan e := by
  rcases atChannel_cases d f s with h | ⟨c, h⟩
  · rw [h]
  · rw [h]; rfl
@[simp] theorem guard_atChannel (e : Door) : (atChannel d f s).guard e = (f s).guard e := by
  rcases atChannel_cases d f s with h | ⟨c, h⟩
  · rw [h]
  · rw [h]; rfl
@[simp] theorem demand_atChannel (e : Door) : (atChannel d f s).demand e = (f s).demand e := by
  rcases atChannel_cases d f s with h | ⟨c, h⟩
  · rw [h]
  · rw [h]; rfl
@[simp] theorem port_atChannel (p : Port) : (atChannel d f s).port p = (f s).port p := by
  rcases atChannel_cases d f s with h | ⟨c, h⟩
  · rw [h]
  · rw [h]; cases p <;> rfl

/-- R72: a change of state is sent last. -/
theorem sent_atChannel : (atChannel d f s).sent = (f s).sent ++
    (if ((f s).chan d).state = (s.chan d).state then [] else [.channelStateAtClu d ((f s).chan d).state]) := by
  unfold atChannel
  dsimp only
  split
  · rw [List.append_nil]
  · rfl

variable {d f s}

theorem atChannel_of_eq (h : f s = s) : atChannel d f s = s := by
  unfold atChannel
  rw [h]
  exact if_pos rfl

end AtChannel

theorem onlyDoor_of_blank {d : Door} {s t : State} (h : t.blank d = s.blank d) : OnlyDoor d s t := by
  have hbare := State.bare_of_blank h
  obtain ⟨hcontrol, hlines, hclu, hfree, hlinkT, hlinkS⟩ := tableEvent_of_offTable (State.offTable_of_bare hbare)
  exact ⟨hcontrol, State.slots_of_bare hbare, hlines, hclu, hfree,
    fun e he => ⟨State.chan_of_blank h he, State.guard_of_blank h he, State.demand_of_blank h he⟩, hlinkT, hlinkS⟩

theorem noNotice_of_ports {s t : State} (h : ∀ p, t.port p = s.port p) : NoNotice s t := by
  refine ⟨?_, ?_⟩ <;> unfold SameNotices <;> rw [h] <;> exact ⟨rfl, rfl, rfl, rfl⟩

/-! ### The rules -/

/-- Doorway d alone has changed, and without a notice: its channel is c, its guard section g and its record r, and it
has sent es. -/
structure Enters (d : Door) (es : List Instr) (c : Channel) (g : Guard) (r : Demand) (s t : State) : Prop where
  blank : t.blank d = s.blank d
  chan : t.chan d = c
  guard : t.guard d = g
  demand : t.demand d = r
  ports : ∀ p, t.port p = s.port p
  sent : t.sent = s.sent ++ es

namespace Enters
variable {d : Door} {es : List Instr} {c : Channel} {g : Guard} {r : Demand} {s t : State}

theorem refl (d : Door) (s : State) : Enters d [] (s.chan d) (s.guard d) (s.demand d) s s :=
  ⟨rfl, rfl, rfl, rfl, fun _ => rfl, (List.append_nil _).symm⟩

section Updates
variable (h : Enters d es c g r s t)
include h

theorem asserted (l : Line) : t.asserted l = s.asserted l := State.asserted_of_bare (State.bare_of_blank h.blank) l

theorem cfg : t.cfg = s.cfg := State.cfg_of_bare (State.bare_of_blank h.blank)

theorem modChan (f : Channel → Channel) : Enters d es (f c) g r s (t.modChan d f) :=
  ⟨(State.blank_modChan d t f).trans h.blank, by rw [State.chan_modChan, h.chan], h.guard, h.demand,
    fun p => (by cases p <;> rfl : (t.modChan d f).port p = t.port p).trans (h.ports p), h.sent⟩

theorem modGuard (f : Guard → Guard) : Enters d es c (f g) r s (t.modGuard d f) :=
  ⟨(State.blank_modGuard d t f).trans h.blank, h.chan, by rw [State.guard_modGuard, h.guard], h.demand,
    fun p => (by cases p <;> rfl : (t.modGuard d f).port p = t.port p).trans (h.ports p), h.sent⟩

theorem setDemand (q : Demand) : Enters d es c g q s (t.setDemand d q) :=
  ⟨(State.blank_setDemand d t q).trans h.blank, h.chan, h.guard, State.demand_setDemand t d q,
    fun p => (by cases p <;> rfl : (t.setDemand d q).port p = t.port p).trans (h.ports p), h.sent⟩

theorem send {e : Instr} (he : sentFrom d e = true) : Enters d (es ++ [e]) c g r s (t.send e) :=
  ⟨(State.blank_send d t e he).trans h.blank, h.chan, h.guard, h.demand,
    fun p => (by cases p <;> rfl : (t.send e).port p = t.port p).trans (h.ports p),
    by rw [State.send_sent, h.sent, List.append_assoc]⟩

theorem enterState (st : ChState) (dr : Drive) (sol : Bool) (lamp : Lamp) :
    Enters d es (c.rest st dr sol lamp) g.idle r s (enterState d st dr sol lamp t) :=
  (h.modChan (·.rest st dr sol lamp)).modGuard Guard.idle

/-- R132: no bridge fault. -/
theorem bridgeCheck (hb : s.asserted (.bflt d) = false) : Enters d es c g r s (bridgeCheck d t) := by
  have hno : Machine.bridgeCheck d t = t := by rw [Machine.bridgeCheck, h.asserted, hb]; rfl
  rw [hno]
  exact h

/-- One change after another. -/
theorem trans {es' : List Instr} {c' : Channel} {g' : Guard} {r' : Demand} {u : State}
    (k : Enters d es' c' g' r' t u) : Enters d (es ++ es') c' g' r' s u :=
  ⟨k.blank.trans h.blank, k.chan, k.guard, k.demand, fun p => (k.ports p).trans (h.ports p),
    by rw [k.sent, h.sent, List.append_assoc]⟩

theorem onlyDoor : OnlyDoor d s t := onlyDoor_of_blank h.blank

theorem noNotice : NoNotice s t := noNotice_of_ports h.ports

end Updates

/-- The change of state told (R72). -/
theorem atChannel {f : State → State} (h : Enters d es c g r s (f s)) :
    Enters d (es ++ if c.state = (s.chan d).state then [] else [.channelStateAtClu d c.state]) c g r s
      (atChannel d f s) := by
  refine ⟨blank_atChannel d s f h.blank, by rw [chan_atChannel, h.chan], by rw [guard_atChannel, h.guard],
    by rw [demand_atChannel, h.demand], fun p => by rw [port_atChannel, h.ports], ?_⟩
  rw [sent_atChannel, h.chan, h.sent, List.append_assoc]

theorem sends {f : State → State} (h : Enters d es c g r s (f s)) : Sends d es s (Machine.atChannel d f s) := by
  rw [Sends, h.atChannel.sent, h.atChannel.chan, List.append_assoc]

theorem plain {f : State → State} (h : Enters d es c g (s.demand d) s (f s)) :
    Plain d es s (Machine.atChannel d f s) :=
  ⟨h.atChannel.onlyDoor, h.atChannel.noNotice, h.atChannel.demand, h.sends⟩

end Enters

/-! ### The entries -/

section Entries
variable {d : Door} {s : State} (hb : s.asserted (.bflt d) = false)

/-- R63: the interval of a WARNING. -/
def State.warnInterval (s : State) (d : Door) : Nat :=
  if (s.guard d).reopenCount = 0 then s.cfg.warnTime else s.cfg.recloseWarn

/-- R63: a channel in WARNING. -/
def Channel.warning (c : Channel) (n : Nat) : Channel :=
  { c.rest .warning .brake false (.flashing true) with warn := some n }

/-- R68: a channel in STOPPING. -/
def Channel.stopping (c : Channel) (n : Nat) : Channel :=
  { c.rest .stopping .brake false .off with pause := some n }

/-- R57: a channel in LOCKED. -/
def Channel.locked (c : Channel) : Channel := (c.rest .locked .free false .off).setPos 0

/-- R117: a channel in UNLOCKING. -/
def Channel.unlocking (c : Channel) (n : Nat) : Channel :=
  { c.rest .unlocking .brake true .off with unlock := some (.first, n) }

/-- R59, R60: a channel that begins to open. -/
def Channel.opening (c : Channel) (cfg : Image) (d : Door) (slide : Bool) : Channel :=
  { (c.rest .plugOut .free false .off).openProfile cfg d slide with travel := some (.opening, cfg.travelOpen d) }

/-- R61: a guard section at an arrival. -/
def Guard.arrived (g : Guard) (keep : Bool) : Guard := (if keep then g.idle else g.idle.zeroReopen).zeroRetry

include hb

theorem enters_enterWarning :
    Enters d [] ((s.chan d).warning (s.warnInterval d)) (s.guard d).idle (s.demand d) s (enterWarning d s) :=
  (((Enters.refl d s).enterState .warning .brake false (.flashing true)).modChan
    (fun c => { c with warn := some (s.warnInterval d) })).bridgeCheck hb

theorem enters_enterStopping :
    Enters d [] ((s.chan d).stopping s.cfg.reversalPause) (s.guard d).idle (s.demand d) s (enterStopping d s) :=
  (((Enters.refl d s).enterState .stopping .brake false .off).modChan
    (fun c => { c with pause := some s.cfg.reversalPause })).bridgeCheck hb

omit hb in
theorem enters_enterLocked :
    Enters d [] (s.chan d).locked (s.guard d).idle.zeroRecord (s.demand d) s (enterLocked d s) :=
  (((Enters.refl d s).enterState .locked .free false .off).modChan (·.setPos 0)).modGuard Guard.zeroRecord

theorem enters_enterOpen :
    Enters d [.countdownStart d] ((s.chan d).rest .isOpen .brake false .off)
      ((s.guard d).arrived (governedByGrd d (s.demand d))) (s.demand d) s (enterOpen d s) :=
  ((((Enters.refl d s).enterState .isOpen .brake false .off).modGuard
    (fun g => (if governedByGrd d (s.demand d) then g else g.zeroReopen).zeroRetry)).send
    (sentFrom_countdownStart d)).bridgeCheck hb

/-- R82: no force comparison at the beginning of the motion. -/
theorem enters_beginOpening (hf : s.asserted (.frc d) = false) (slide : Bool) :
    Enters d [] ((s.chan d).opening s.cfg d slide) ((s.guard d).idle.beginMotion (s.cfg.stallInterval d))
      (s.demand d) s (beginOpening d slide s) := by
  have h1 := ((((Enters.refl d s).enterState .plugOut .free false .off).modChan
    (fun c => { c.openProfile s.cfg d slide with travel := some (.opening, s.cfg.travelOpen d) })).modGuard
    (·.beginMotion (s.cfg.stallInterval d))).bridgeCheck hb
  have hfrc := h1.asserted (.frc d)
  unfold beginOpening
  dsimp only
  rw [if_neg (by rw [hfrc, hf]; simp)]
  exact h1

/-- R117: the locked switch is still made. -/
theorem enters_enterUnlocking (hl : s.asserted (.lks d) = true) :
    Enters d [] ((s.chan d).unlocking (s.cfg.unlockTime d)) (s.guard d).idle (s.demand d) s (enterUnlocking d s) := by
  have h1 := (((Enters.refl d s).enterState .unlocking .brake true .off).modChan
    (fun c => { c with unlock := some (.first, s.cfg.unlockTime d) })).bridgeCheck hb
  have hlks := h1.asserted (.lks d)
  unfold enterUnlocking
  dsimp only
  rw [if_neg (by rw [hlks, hl]; simp)]
  exact h1

/-- R117: the locked switch is no longer made: the leaf begins to open at once. -/
theorem enters_enterUnlocking_broken (hf : s.asserted (.frc d) = false) (hl : s.asserted (.lks d) = false) :
    Enters d [] ((s.chan d).opening s.cfg d false) ((s.guard d).idle.beginMotion (s.cfg.stallInterval d))
      (s.demand d) s (enterUnlocking d s) := by
  have h1 := (((Enters.refl d s).enterState .unlocking .brake true .off).modChan
    (fun c => { c with unlock := some (.first, s.cfg.unlockTime d) })).bridgeCheck hb
  have hlks := h1.asserted (.lks d)
  have hst : ((bridgeCheck d ((enterState d .unlocking .brake true .off s).modChan d
    (fun c => { c with unlock := some (.first, s.cfg.unlockTime d) }))).chan d).state = .unlocking :=
    congrArg Channel.state h1.chan
  have h2 := h1.trans (enters_beginOpening ((h1.asserted _).trans hb) ((h1.asserted _).trans hf) false)
  rw [h1.chan, h1.guard, h1.demand, h1.cfg] at h2
  unfold enterUnlocking
  dsimp only
  rw [if_pos ⟨hst, by rw [hlks, hl]; simp⟩]
  exact h2

end Entries

end Sys2Proof.Machine
end

section
/-! PROOF. R43, R70, R142: a channel that takes an EGRESS record lets its leaf go; and what an entry into FAULTED or
EGRESS writes (R70, R137). -/

namespace Sys2Proof.Machine

open Claims Safety

section Leaving
variable {d : Door} {es : List Instr} {c : Channel} {g : Guard} {r : Demand} {s t : State}

/-- R42: the reference lost, with the record that this gives. -/
theorem Enters.clearReferenced (h : Enters d es c g r s t) :
    ∃ q, Enters d es { c with referenced := false } g q s (clearReferenced d t) := by
  have h1 := h.modChan (fun c => { c with referenced := false })
  unfold Machine.clearReferenced
  dsimp only
  split
  · exact ⟨_, h1.setDemand _⟩
  · exact ⟨r, h1⟩

/-- R70, R137: what a channel that leaves for EGRESS or FAULTED tells the table, its GRD placement dropped (R87). -/
def leaves (d : Door) (e : EntryKind) (s : State) : State := (s.dropGrd d).send (.channelEntryAtTable d e)

/-- R70: the entry into EGRESS. -/
theorem enterEgress_spec (d : Door) (s : State) : ∃ q v, enterEgress d s = leaves d .egress v ∧
    Enters d [] { (s.chan d).rest .egress .free true .off with plaus := none, referenced := false } (s.guard d).idle q
      s v := by
  obtain ⟨q, h⟩ := (((Enters.refl d s).enterState .egress .free true .off).modChan
    (fun c => { c with plaus := none })).clearReferenced
  exact ⟨q, _, rfl, h⟩

/-- R137: the entry into FAULTED. -/
theorem enterFaulted_spec (d : Door) (s : State) : ∃ q v, enterFaulted d s = (leaves d .faulted v).raiseDoor .fault d ∧
    Enters d [] { (s.chan d).rest .faulted .free false .off with referenced := false } (s.guard d).idle q s v := by
  obtain ⟨q, h⟩ := ((Enters.refl d s).enterState .faulted .free false .off).clearReferenced
  exact ⟨q, _, rfl, h⟩

/-- R41: the record of a fitted doorway, recomputed where it differs. -/
theorem recomputeDoor_of_ne (hf : s.fitted d = true) (hne : s.resolve d ≠ s.demand d) :
    recomputeDoor d s = atChannel d (react d (s.demand d)) (s.setDemand d (s.resolve d)) := by
  unfold recomputeDoor
  dsimp only
  rw [if_neg (by simp [hf]), if_neg hne]

/-- R33: an EGRESS record does not read the referenced flag. -/
theorem resolve_of_egress_record (hk : (s.resolve d).kind = .egress) (hb : t.bare = s.bare) :
    t.resolve d = s.resolve d := by
  have hover : t.holdsOver d = s.holdsOver d := by rw [State.holdsOver, State.slots_of_bare hb, State.holdsOver]
  have hrel : t.released d = s.released d := by
    rw [State.released, State.hold_of_bare hb, State.cfg_of_bare hb, hover, State.released]
  cases he : (s.holdsOver d).find? (fun h => h.kind == .egress) with
  | some h => rw [resolve_of_egress (hover ▸ he), resolve_of_egress he, hrel]
  | none =>
    exfalso
    simp only [State.resolve, he] at hk
    split at hk
    · cases hk
    split at hk
    · cases hk
    split at hk
    · cases hk
    split at hk <;> cases hk

end Leaving

/-- Settles O34, by what the entry into EGRESS writes and tells. -/
theorem egressLetsTheLeafGo : Obligations.EgressLetsTheLeafGo := by
  intro d s hfit hu he hk hne
  dsimp only
  have hfresh := fresh_recomputeDoor (d := d) (s := s)
  have hblank := blank_recomputeDoor d s
  have hbare := State.bare_of_blank hblank
  have hdemand : (recomputeDoor d s).demand d = s.resolve d :=
    (hfresh ((State.fitted_of_bare hbare d).trans hfit)).trans (resolve_of_egress_record hk hbare)
  rw [recomputeDoor_of_ne hfit hne] at hblank hdemand ⊢
  generalize hs1 : s.setDemand d (s.resolve d) = u at hblank hdemand ⊢
  have hchan : u.chan d = s.chan d := by rw [← hs1]; rfl
  have hsent : u.sent = s.sent := by rw [← hs1]; rfl
  have hports : ∀ p, u.port p = s.port p := fun p => by rw [← hs1]; cases p <;> rfl
  have hudem : u.demand d = s.resolve d := by rw [← hs1]; exact State.demand_setDemand s d _
  obtain ⟨q, v, hv, h⟩ := enterEgress_spec d u
  have hf : react d (s.demand d) u = leaves d .egress v := by
    unfold react
    dsimp only
    rw [hudem, hchan, if_neg hu, if_pos hk, if_neg he, hv]
  have hc : (leaves d .egress v).chan d = _ := h.chan
  rw [hchan] at hc
  have hport : ∀ p, (atChannel d (react d (s.demand d)) u).port p = s.port p := fun p => by
    rw [port_atChannel, hf]
    exact ((by cases p <;> rfl : (leaves d .egress v).port p = v.port p).trans (h.ports p)).trans (hports p)
  refine ⟨?_, ?_, ?_, ?_, ?_, ?_, hdemand, onlyDoor_of_blank hblank, noNotice_of_ports hport, ?_⟩
  · rw [chan_atChannel, hf, hc]
    exact ⟨rfl, rfl, rfl, rfl⟩
  · rw [chan_atChannel, hf, hc]
    exact ⟨rfl, rfl, rfl, rfl, rfl, rfl⟩
  · rw [chan_atChannel, hf, hc]
  · rw [chan_atChannel, hf, hc]
  · rw [chan_atChannel, hf, hc]
    rfl
  · rw [chan_atChannel, hf, hc]
    rfl
  · have hsv : (leaves d .egress v).sent = s.sent.filter (fun c => !isGrdPlacement d c) ++
        [.channelEntryAtTable d .egress] := by
      rw [← hsent, ← List.append_nil u.sent, ← h.sent]
      rfl
    have hst : ((leaves d .egress v).chan d).state = .egress := congrArg Channel.state hc
    rw [sent_atChannel, hf, hst, hchan, if_neg (Ne.symm he), hsv, List.append_assoc]
    rfl

end Sys2Proof.Machine
end

section
/-! SUPPORT. R54 to R71, Table 3-3: what the entries say of a channel that acts on its record, no line hindering. -/

namespace Sys2Proof.Machine

open Claims Safety

/-! ### The entries, as the statements name them -/

section Named
variable {d : Door} {es : List Instr} {c : Channel} {g : Guard} {r : Demand} {s t : State}

theorem Enters.warns (h : Enters d es ((s.chan d).warning (s.warnInterval d)) g r s t) (hg : Resting g)
    (hr : SameReopen (s.guard d) g) : Warns d s t := by
  rw [← h.guard] at hg hr
  refine ⟨?_, ?_, ?_, hg, hr⟩ <;> rw [h.chan]
  · exact ⟨rfl, rfl, rfl, rfl⟩
  · exact ⟨rfl, rfl, rfl, rfl, rfl, rfl⟩
  · exact ⟨rfl, rfl, rfl, rfl, rfl, rfl, rfl⟩

theorem Enters.stops (h : Enters d es ((s.chan d).stopping s.cfg.reversalPause) (s.guard d).idle r s t) :
    Stops d s t := by
  unfold Stops
  rw [h.chan, h.guard]
  exact ⟨⟨rfl, rfl, rfl, rfl⟩, ⟨rfl, rfl, rfl, rfl, rfl, rfl⟩, ⟨rfl, rfl, rfl, rfl, rfl, rfl, rfl⟩, ⟨rfl, rfl⟩,
    ⟨rfl, rfl, rfl, rfl⟩, ⟨rfl, rfl⟩⟩

theorem Enters.locks (h : Enters d es (s.chan d).locked (s.guard d).idle.zeroRecord r s t) : Locks d s t := by
  unfold Locks
  rw [h.chan, h.guard]
  exact ⟨⟨rfl, rfl, rfl, rfl⟩, ⟨rfl, rfl, rfl, rfl, rfl, rfl⟩, rfl, rfl, rfl, rfl, ⟨rfl, rfl⟩, ⟨rfl, rfl, rfl, rfl⟩,
    ⟨rfl, rfl⟩⟩

theorem Enters.opens {slide : Bool} (h : Enters d es ((s.chan d).opening s.cfg d slide)
    ((s.guard d).idle.beginMotion (s.cfg.stallInterval d)) r s t) :
    Opens d slide s t ∧ SameLeaf (s.chan d) (t.chan d) := by
  unfold Opens
  rw [h.chan, h.guard]
  exact ⟨⟨⟨rfl, rfl, rfl, rfl⟩, rfl, ⟨rfl, rfl, rfl, rfl, rfl, rfl⟩, ⟨rfl, rfl, rfl⟩, ⟨rfl, rfl, rfl, rfl⟩, ⟨rfl, rfl⟩⟩,
    ⟨rfl, rfl, rfl, rfl, rfl, rfl, rfl⟩⟩

theorem guardGoverns_iff : GuardGoverns d s ↔ governedByGrd d (s.demand d) = true := by
  have hslot : (grdSlot d).val = 10 + d.val := rfl
  unfold GuardGoverns governedByGrd
  cases (s.demand d).gov with
  | none => simp
  | some h => simp [hslot]

theorem Enters.arrives (h : Enters d es ((s.chan d).rest .isOpen .brake false .off)
    ((s.guard d).arrived (governedByGrd d (s.demand d))) r s t) :
    Arrives d s t ∧ SameLeaf (s.chan d) (t.chan d) := by
  unfold Arrives
  rw [h.chan, h.guard]
  refine ⟨⟨⟨rfl, rfl, rfl, rfl⟩, ⟨rfl, rfl, rfl, rfl, rfl, rfl⟩, ?_⟩, ⟨rfl, rfl, rfl, rfl, rfl, rfl, rfl⟩⟩
  by_cases hk : governedByGrd d (s.demand d) = true
  · rw [if_pos (guardGoverns_iff.mpr hk), hk]
    exact ⟨⟨rfl, rfl⟩, ⟨rfl, rfl⟩, rfl, rfl, rfl, rfl⟩
  · rw [if_neg (fun hg => hk (guardGoverns_iff.mp hg)), eq_false_of_ne_true hk]
    exact ⟨⟨rfl, rfl⟩, ⟨rfl, rfl⟩, rfl, rfl, rfl, rfl⟩

/-- R64, R68: the decision by position. -/
theorem opensByPosition_of {f : State → State} {tg : Nat} (hb : s.asserted (.bflt d) = false)
    (hf : s.asserted (.frc d) = false) (htg : (s.demand d).target = some tg) (h : f s = openByPosition d s) :
    OpensByPosition d tg s (atChannel d f s) := by
  unfold openByPosition at h
  simp only [htg] at h
  unfold OpensByPosition
  split at h
  · rename_i hle
    have k := enters_enterOpen hb
    rw [← h] at k
    rw [if_pos hle]
    exact ⟨k.atChannel.arrives.2, k.atChannel.arrives.1, k.plain⟩
  · rename_i hle
    have k := enters_beginOpening hb hf (decide (s.cfg.plugPoint d ≤ (s.chan d).position.val))
    rw [← h] at k
    rw [if_neg hle]
    exact ⟨k.atChannel.opens.2, k.atChannel.opens.1, k.plain⟩

end Named

/-! ### UNREFERENCED and the reference (R42, R50, R55, R56) -/

section Settling
variable {d : Door} {s t u v : State} {c : Channel} {g : Guard}

/-- R55: a channel in UNREFERENCED waits or warns. -/
theorem actUnreferenced_eq (hk : (s.demand d).kind ≠ .egress) :
    actUnreferenced d s = if KeepsWaiting (s.demand d) then s else enterWarning d s := by
  unfold actUnreferenced KeepsWaiting
  cases hd : (s.demand d).kind with
  | egress => exact absurd hd hk
  | opens => simp [hd]
  | closes | isolated => simp [hd]

theorem referencedRecord_congr (h : t.bare = s.bare) : referencedRecord d t = referencedRecord d s := by
  refine State.resolve_congr d ?_ (by simp)
  rw [State.bare_of_blank (State.blank_modChan d t _), h, State.bare_of_blank (State.blank_modChan d s _)]

/-- R42, R49: a channel at position 0 with its reference. -/
def Channel.zeroed (c : Channel) : Channel := { c.setPos 0 with referenced := true }

/-- R42, R56: a channel that has its record with the reference: LOCKED, or UNLOCKING where the record has become
OPEN. -/
def Channel.homed (c : Channel) (s : State) (d : Door) : Channel :=
  if (referencedRecord d s).kind = .opens ∧ referencedRecord d s ≠ s.demand d
  then c.zeroed.locked.unlocking (s.cfg.unlockTime d) else c.zeroed.locked

/-- R42, R56: the reference taken at the made pair. -/
theorem enters_takeReference (hb : s.asserted (.bflt d) = false) (hl : s.asserted (.lks d) = true) :
    Enters d [] ((s.chan d).homed s d) (s.guard d).zeroRetry.idle.zeroRecord (referencedRecord d s) s
      (takeReference d false s) := by
  have h1 := ((Enters.refl d s).modChan Channel.zeroed).modGuard Guard.zeroRetry
  have h2 := h1.trans enters_enterLocked
  rw [h1.chan, h1.guard, h1.demand] at h2
  have heq : takeReference d false s =
      (let s2 := enterLocked d ((s.modChan d Channel.zeroed).modGuard d Guard.zeroRetry)
       if s2.resolve d = s2.demand d then s2
       else if (s2.resolve d).kind = .opens then
         if ((s2.setDemand d (s2.resolve d)).chan d).state = .locked then enterUnlocking d (s2.setDemand d (s2.resolve d))
         else if ((s2.setDemand d (s2.resolve d)).chan d).state = .locking
           then beginOpening d false (s2.setDemand d (s2.resolve d)) else s2.setDemand d (s2.resolve d)
       else s2.setDemand d (s2.resolve d)) := rfl
  rw [heq]
  generalize enterLocked d ((s.modChan d Channel.zeroed).modGuard d Guard.zeroRetry) = s2 at h2 ⊢
  have hres : s2.resolve d = referencedRecord d s := by
    refine State.resolve_congr d ?_ (by rw [h2.chan, State.chan_modChan]; rfl)
    rw [State.bare_of_blank h2.blank, State.bare_of_blank (State.blank_modChan d s _)]
  have h3 := h2.setDemand (referencedRecord d s)
  have hst : ((s2.setDemand d (referencedRecord d s)).chan d).state = .locked := congrArg Channel.state h3.chan
  have h4 := h3.trans (enters_enterUnlocking ((h3.asserted _).trans hb) ((h3.asserted _).trans hl))
  rw [h3.chan, h3.guard, h3.demand, h3.cfg] at h4
  dsimp only
  rw [hres, h2.demand, if_pos hst, Channel.homed]
  by_cases hsame : referencedRecord d s = s.demand d
  · rw [if_pos hsame, if_neg (fun k => k.2 hsame), hsame]
    exact h2
  · rw [if_neg hsame]
    by_cases ho : (referencedRecord d s).kind = .opens
    · rw [if_pos ho, if_pos ⟨ho, hsame⟩]
      exact h4
    · rw [if_neg ho, if_neg (fun k => ho k.1)]
      exact h3

/-- R42, R56: what is said of a reference taken at the made pair, from a channel c with the doorway's fault. -/
theorem references_of {f : State → State} (h : Enters d [] (c.homed u d) g.zeroRetry.idle.zeroRecord
    (referencedRecord d u) u (f u)) (hl : u.asserted (.lks d) = true) (hfault : c.fault = (u.chan d).fault) :
    References d false u (atChannel d f u) := by
  have hmade : ¬ (((referencedRecord d u).kind = .opens ∧ referencedRecord d u ≠ u.demand d) ∧
      (false = true ∨ u.asserted (.lks d) = false)) := by simp [hl]
  unfold References
  dsimp only
  rw [h.atChannel.chan, h.atChannel.guard, if_neg hmade]
  unfold Channel.homed
  refine ⟨?_, ?_, ?_, ?_, h.atChannel.demand, h.atChannel.onlyDoor, h.atChannel.noNotice, h.sends, ⟨rfl, rfl⟩,
    ⟨rfl, rfl, rfl, rfl⟩, ⟨rfl, rfl⟩, ?_⟩
  · split <;> rfl
  · split <;> rfl
  · split <;> rfl
  · split <;> exact hfault
  · split
    · exact ⟨⟨rfl, rfl, rfl, rfl⟩, ⟨rfl, rfl, rfl, rfl, rfl, rfl⟩⟩
    · exact ⟨⟨rfl, rfl, rfl, rfl⟩, ⟨rfl, rfl, rfl, rfl, rfl, rfl⟩⟩

/-- R50, R55: what an entry into UNREFERENCED in RUN leads to. The channel c and the guard section g come to it with the
record, the fault and the counts of the doorway. -/
theorem settles_enterUnreferenced {f : State → State} (h : Enters d [] c g (u.demand d) u v)
    (hf : f u = enterUnreferenced d v) (hrun : u.chanInRun d = true) (hb : u.asserted (.bflt d) = false)
    (hk : (u.demand d).kind ≠ .egress) (hfault : c.fault = (u.chan d).fault) (hreopen : SameReopen (u.guard d) g)
    (hretry : SameRetry (u.guard d) g) :
    Settles d u (atChannel d f u) ∧ ((atChannel d f u).chan d).plaus = c.plaus := by
  have h1 := h.enterState .unreferenced .free false .off
  have hrun1 : (enterState d .unreferenced .free false .off v).chanInRun d = true := by
    rw [State.chanInRun, h1.sent, State.mode_of_bare (State.bare_of_blank h1.blank),
      State.fitted_of_bare (State.bare_of_blank h1.blank), List.append_nil]
    exact hrun
  have hmade : (enterState d .unreferenced .free false .off v).bothMade d = true ↔ PairMade d u := by
    rw [State.bothMade, h1.asserted, h1.asserted, Bool.and_eq_true]
  unfold enterUnreferenced at hf
  simp only [hrun1, Bool.not_true, Bool.false_eq_true, if_false] at hf
  generalize enterState d .unreferenced .free false .off v = v1 at hf h1 hmade
  unfold Settles
  by_cases hp : PairMade d u
  · rw [if_pos (hmade.mpr hp)] at hf
    rw [if_pos hp]
    have h2 := h1.trans (enters_takeReference ((h1.asserted _).trans hb) ((h1.asserted _).trans hp.2))
    have hhomed : (v1.chan d).homed v1 d = (c.rest .unreferenced .free false .off).homed u d := by
      unfold Channel.homed
      rw [referencedRecord_congr (State.bare_of_blank h1.blank), h1.chan, h1.demand, h1.cfg]
    rw [hhomed, referencedRecord_congr (State.bare_of_blank h1.blank), h1.guard, ← hf] at h2
    refine ⟨references_of h2 hp.2 hfault, ?_⟩
    rw [h2.atChannel.chan, Channel.homed]
    split <;> rfl
  · rw [if_neg (fun k => hp (hmade.mp k)), actUnreferenced_eq (by rw [h1.demand]; exact hk), h1.demand] at hf
    rw [if_neg hp]
    by_cases hw : KeepsWaiting (u.demand d)
    · rw [if_pos hw] at hf
      rw [if_pos hw]
      rw [← hf] at h1
      rw [h1.atChannel.chan, h1.atChannel.guard]
      exact ⟨⟨hreopen, hretry, h1.plain, ⟨rfl, rfl, rfl, rfl⟩, ⟨rfl, rfl, rfl, rfl, rfl, rfl⟩, ⟨rfl, rfl⟩⟩, rfl⟩
    · rw [if_neg hw] at hf
      rw [if_neg hw]
      have h2 := h1.trans (enters_enterWarning ((h1.asserted _).trans hb))
      rw [h1.demand, ← hf] at h2
      have hwarn : v1.warnInterval d = u.warnInterval d := by
        rw [State.warnInterval, h1.guard, h1.cfg, show g.idle.reopenCount = _ from hreopen.1, State.warnInterval]
      rw [h2.atChannel.chan, h2.atChannel.guard, hwarn, h1.chan, h1.guard]
      exact ⟨⟨hreopen, hretry, h2.plain, ⟨rfl, rfl, rfl, rfl⟩, ⟨rfl, rfl⟩, ⟨rfl, rfl, rfl, rfl, rfl, rfl⟩⟩, rfl⟩

end Settling

end Sys2Proof.Machine
end

section
/-! PROOF. R43, R54, Table 3-3: how a channel takes a record that differs from the one before, no line hindering. -/

namespace Sys2Proof.Machine

open Claims Safety

/-! ### The reaction, case by case (R54) -/

section Cases
variable {d : Door} {u : State} {old : Demand}

theorem react_unfitted (hst : (u.chan d).state = .unfitted) : react d old u = u := by
  unfold react
  dsimp only
  rw [if_pos hst]

variable (hk : (u.demand d).kind ≠ .egress)
include hk

theorem react_egress (hst : (u.chan d).state = .egress) : react d old u = exitEgress d u := by
  unfold react
  dsimp only
  rw [if_neg (by rw [hst]; decide), if_neg hk, if_pos hst]

variable (hne : (u.chan d).state ≠ .egress)
include hne

theorem react_idle (hrun : u.chanInRun d = false) : react d old u = u := by
  unfold react
  dsimp only
  rw [if_neg hk, if_neg hne, hrun]
  split
  · rfl
  · rfl

variable (hrun : u.chanInRun d = true)
include hrun

theorem react_unreferenced (hst : (u.chan d).state = .unreferenced) : react d old u = actUnreferenced d u := by
  unfold react
  dsimp only
  rw [if_neg (by rw [hst]; decide), if_neg hk, if_neg hne, hrun, if_neg (by decide), if_pos hst]

theorem react_warning (hst : (u.chan d).state = .warning) (href : (u.chan d).referenced ≠ true) :
    react d old u = reactWarningUnreferenced d u := by
  unfold react
  dsimp only
  rw [if_neg (by rw [hst]; decide), if_neg hk, if_neg hne, hrun, if_neg (by decide), if_neg (by rw [hst]; decide),
    if_pos ⟨hst, href⟩]

/-- R54: any other channel reacts to a changed demand or target. -/
theorem react_table (hu : (u.chan d).state ≠ .unfitted) (hr : (u.chan d).state ≠ .unreferenced)
    (hw : (u.chan d).state = .warning → (u.chan d).referenced = true) :
    react d old u = if (u.demand d).kind = old.kind ∧ (u.demand d).target = old.target then u
      else if (u.demand d).kind = .opens then reactToOpen d u else reactToClose d u := by
  have hch : (!demandChanged old (u.demand d)) = true ↔
      (u.demand d).kind = old.kind ∧ (u.demand d).target = old.target := by
    rw [demandChanged, Bool.not_eq_true', Bool.or_eq_false_iff, bne_eq_false_iff_eq, bne_eq_false_iff_eq]
    exact and_congr eq_comm eq_comm
  unfold react
  dsimp only
  rw [if_neg hu, if_neg hk, if_neg hne, hrun, if_neg (by decide), if_neg hr, if_neg (fun k => k.2 (hw k.1))]
  simp only [hch]

end Cases

/-! ### The exit from EGRESS (R71, R134) -/

section Exit
variable {d : Door} {u : State}

/-- R134: the plausibility timer of a channel that leaves EGRESS. -/
def exitPlaus (d : Door) (u : State) : Option Nat :=
  if u.chanInRun d = true ∧ u.asserted (.lks d) = true ∧ u.asserted (.cls d) = false then some 10
  else (u.chan d).plaus

/-- R71: a channel that leaves EGRESS, its timer started. -/
def exiting (d : Door) (u : State) : Channel :=
  { (u.chan d).rest .unreferenced .free false .off with plaus := exitPlaus d u }

theorem exitEgress_spec (d : Door) (u : State) : ∃ v,
    Enters d [] (exiting d u) (u.guard d).idle (u.demand d) u v ∧
    exitEgress d u = if (u.chan d).fault.isSome then enterFaulted d v else enterUnreferenced d v := by
  have h1 := (Enters.refl d u).enterState .unreferenced .free false .off
  have hrun : (enterState d .unreferenced .free false .off u).chanInRun d = u.chanInRun d := rfl
  have hst : ((enterState d .unreferenced .free false .off u).chan d).state = .unreferenced :=
    state_enterState _ _ _ _
  have hstart : Enters d [] (exiting d u) (u.guard d).idle (u.demand d) u
      (if (enterState d .unreferenced .free false .off u).chanInRun d
       then startPlaus d (enterState d .unreferenced .free false .off u)
       else enterState d .unreferenced .free false .off u) := by
    rw [hrun, exiting, exitPlaus]
    cases hr : u.chanInRun d
    · exact h1
    · unfold startPlaus
      rw [h1.asserted, h1.asserted, hst]
      cases u.asserted (.lks d)
      · exact h1
      · cases u.asserted (.cls d)
        · exact h1.modChan (fun c => { c with plaus := some 10 })
        · exact h1
  refine ⟨_, hstart, ?_⟩
  have hfault := congrArg Channel.fault hstart.chan
  unfold exitEgress
  dsimp only
  rw [hfault]
  rfl

/-- R71: with no fault, a channel in RUN settles. -/
theorem exitEgress_settles {f : State → State} (hf : f u = exitEgress d u) (hno : (u.chan d).fault = none)
    (hrun : u.chanInRun d = true) (hb : u.asserted (.bflt d) = false) (hk : (u.demand d).kind ≠ .egress) :
    Settles d u (atChannel d f u) ∧ ((atChannel d f u).chan d).plaus = exitPlaus d u := by
  obtain ⟨v, h, hexit⟩ := exitEgress_spec d u
  rw [hexit, if_neg (by rw [hno]; exact nofun)] at hf
  exact settles_enterUnreferenced h hf hrun hb hk rfl ⟨rfl, rfl, rfl, rfl⟩ ⟨rfl, rfl⟩

/-- R75, log 15: with no fault, a channel that is not in RUN is in UNREFERENCED and does no more. -/
theorem exitEgress_idle {f : State → State} (hf : f u = exitEgress d u) (hno : (u.chan d).fault = none)
    (hrun : u.chanInRun d = false) :
    Enters d [] (exiting d u) (u.guard d).idle (u.demand d) u (f u) ∧ exitPlaus d u = (u.chan d).plaus := by
  obtain ⟨v, h, hexit⟩ := exitEgress_spec d u
  have hrunv : v.chanInRun d = false := by
    rw [State.chanInRun, h.sent, State.mode_of_bare (State.bare_of_blank h.blank),
      State.fitted_of_bare (State.bare_of_blank h.blank), List.append_nil]
    exact hrun
  rw [hexit, if_neg (by rw [hno]; exact nofun), enterUnreferenced_of_idle hrunv] at hf
  rw [hf]
  exact ⟨h.enterState .unreferenced .free false .off, if_neg (fun k => by rw [hrun] at k; exact nomatch k.1)⟩

theorem doorNotice_raiseDoor (d : Door) (s : State) : DoorNotice 3 PortState.fault d (s.raiseDoor .fault d) := by
  intro p
  have hf : ((s.port p).raiseDoor .fault d).fault = (s.port p).fault ||| single d := rfl
  rw [State.port_raiseDoor, PortState.kinds_raiseDoor, hf]
  simp [has, getLsbD_single, NoticeKind.bit]

/-- R71, R137: with a fault, the channel is in FAULTED. -/
theorem exitEgress_faulted {f : State → State} (hf : f u = exitEgress d u) (hfault : (u.chan d).fault ≠ none)
    (hst : (u.chan d).state = .egress) :
    (f u).chan d = { (exiting d u).rest .faulted .free false .off with referenced := false } ∧
    (f u).guard d = (u.guard d).idle ∧ DoorNotice 3 PortState.fault d (atChannel d f u) ∧
    (atChannel d f u).sent = u.sent.filter (fun c => !isGrdPlacement d c) ++
      [.channelEntryAtTable d .faulted, .channelStateAtClu d .faulted] := by
  obtain ⟨v, h, hexit⟩ := exitEgress_spec d u
  obtain ⟨q, w, hw, k⟩ := enterFaulted_spec d v
  rw [hexit, if_pos (Option.isSome_iff_ne_none.mpr hfault), hw] at hf
  have hk := h.trans k
  rw [h.chan, h.guard] at hk
  have hchan : (f u).chan d = { (exiting d u).rest .faulted .free false .off with referenced := false } := by
    rw [hf]
    exact hk.chan
  have hnotice : DoorNotice 3 PortState.fault d (f u) := hf ▸ doorNotice_raiseDoor d _
  have hsent : (f u).sent = u.sent.filter (fun c => !isGrdPlacement d c) ++ [.channelEntryAtTable d .faulted] := by
    have hws : w.sent = u.sent := hk.sent.trans (List.append_nil _)
    rw [hf, ← hws]
    rfl
  refine ⟨hchan, hf ▸ hk.guard, fun p => by rw [port_atChannel]; exact hnotice p, ?_⟩
  have hstf : ((f u).chan d).state = .faulted := by rw [hchan]; rfl
  rw [sent_atChannel, hstf, hst, hsent, List.append_assoc]
  rfl

end Exit

/-! ### Table 3-3, column by column -/

section Columns
variable {d : Door} {u : State} {f : State → State}

/-- The states that a demand OPEN leaves alone. -/
theorem toOpen_stays (hf : f u = reactToOpen d u)
    (hst : (u.chan d).state ∈ [.referencing, .unlocking, .plugOut, .stopping, .relief, .faulted]) :
    atChannel d f u = u := by
  refine atChannel_of_eq (hf.trans ?_)
  simp only [List.mem_cons, List.not_mem_nil, or_false] at hst
  unfold reactToOpen
  rcases hst with h | h | h | h | h | h <;> rw [h]

/-- The states that a closing demand leaves alone. -/
theorem toClose_stays (hf : f u = reactToClose d u)
    (hst : (u.chan d).state ∈ [.referencing, .locked, .stopping, .warning, .slideClose, .plugIn, .locking, .reseat,
      .relief, .standing, .faulted]) : atChannel d f u = u := by
  refine atChannel_of_eq (hf.trans ?_)
  simp only [List.mem_cons, List.not_mem_nil, or_false] at hst
  unfold reactToClose
  rcases hst with h | h | h | h | h | h | h | h | h | h | h <;> rw [h]

theorem toClose_locks (hf : f u = reactToClose d u) (hst : (u.chan d).state = .unlocking) :
    Locks d u (atChannel d f u) ∧ Plain d [] u (atChannel d f u) := by
  have h := enters_enterLocked (d := d) (s := u)
  replace hf : f u = enterLocked d u := by rw [hf, reactToClose, hst]
  rw [← hf] at h
  exact ⟨h.atChannel.locks, h.plain⟩

variable (hb : u.asserted (.bflt d) = false)
include hb

theorem stops_of (hf : f u = enterStopping d u) : Stops d u (atChannel d f u) ∧ Plain d [] u (atChannel d f u) := by
  have h := enters_enterStopping hb
  rw [← hf] at h
  exact ⟨h.atChannel.stops, h.plain⟩

theorem warns_of (hf : f u = enterWarning d u) : Warns d u (atChannel d f u) ∧
    SameRetry (u.guard d) ((atChannel d f u).guard d) ∧ Plain d [] u (atChannel d f u) := by
  have h := enters_enterWarning hb
  rw [← hf] at h
  refine ⟨h.atChannel.warns ⟨rfl, rfl⟩ ⟨rfl, rfl, rfl, rfl⟩, ?_, h.plain⟩
  rw [h.atChannel.guard]
  exact ⟨rfl, rfl⟩

theorem arrives_of (hf : f u = enterOpen d u) : Arrives d u (atChannel d f u) ∧
    SameLeaf (u.chan d) ((atChannel d f u).chan d) ∧ Plain d [.countdownStart d] u (atChannel d f u) := by
  have h := enters_enterOpen hb
  rw [← hf] at h
  exact ⟨h.atChannel.arrives.1, h.atChannel.arrives.2, h.plain⟩

theorem toClose_stops (hf : f u = reactToClose d u)
    (hst : (u.chan d).state = .plugOut ∨ (u.chan d).state = .slideOpen) :
    Stops d u (atChannel d f u) ∧ Plain d [] u (atChannel d f u) := by
  unfold reactToClose at hf
  rcases hst with h | h <;> rw [h] at hf <;> exact stops_of hb hf

theorem toClose_warns (hf : f u = reactToClose d u) (hst : (u.chan d).state = .isOpen) :
    Warns d u (atChannel d f u) ∧ SameRetry (u.guard d) ((atChannel d f u).guard d) ∧
    Plain d [] u (atChannel d f u) := by
  rw [reactToClose, hst] at hf
  exact warns_of hb hf

/-- R95, R97: OPEN_BLOCKED leaves its retries behind. -/
theorem toClose_blocked (hf : f u = reactToClose d u) (hst : (u.chan d).state = .openBlocked) :
    Warns d u (atChannel d f u) ∧ ZeroRetry ((atChannel d f u).guard d) ∧ Plain d [] u (atChannel d f u) := by
  have h1 := (Enters.refl d u).modGuard Guard.zeroRetry
  have h2 := h1.trans (enters_enterWarning ((h1.asserted _).trans hb))
  have hwarn : (u.modGuard d Guard.zeroRetry).warnInterval d = u.warnInterval d := by
    rw [State.warnInterval, h1.guard]
    rfl
  replace hf : f u = enterWarning d (u.modGuard d Guard.zeroRetry) := by rw [hf, reactToClose, hst]
  rw [h1.demand, h1.chan, h1.guard, hwarn, ← hf] at h2
  refine ⟨h2.atChannel.warns ⟨rfl, rfl⟩ ⟨rfl, rfl, rfl, rfl⟩, ?_, h2.plain⟩
  rw [h2.atChannel.guard]
  exact ⟨rfl, rfl⟩

theorem toOpen_stops (hf : f u = reactToOpen d u)
    (hst : (u.chan d).state = .slideClose ∨ (u.chan d).state = .plugIn) :
    Stops d u (atChannel d f u) ∧ Plain d [] u (atChannel d f u) := by
  unfold reactToOpen at hf
  rcases hst with h | h <;> rw [h] at hf <;> exact stops_of hb hf

theorem toOpen_unlocks (hf : f u = reactToOpen d u) (hst : (u.chan d).state = .locked)
    (hl : u.asserted (.lks d) = true) :
    Outputs ((atChannel d f u).chan d) .unlocking .brake true .off ∧
    SameLeaf (u.chan d) ((atChannel d f u).chan d) ∧
    Timers ((atChannel d f u).chan d) none none none (some (.first, u.cfg.unlockTime d)) none none ∧
    Resting ((atChannel d f u).guard d) ∧ Plain d [] u (atChannel d f u) := by
  have h := enters_enterUnlocking hb hl
  replace hf : f u = enterUnlocking d u := by rw [hf, reactToOpen, hst]
  rw [← hf] at h
  rw [h.atChannel.chan, h.atChannel.guard]
  exact ⟨⟨rfl, rfl, rfl, rfl⟩, ⟨rfl, rfl, rfl, rfl, rfl, rfl, rfl⟩, ⟨rfl, rfl, rfl, rfl, rfl, rfl⟩, ⟨rfl, rfl⟩, h.plain⟩

/-- R60: SLIDE_OPEN arrives at a target that it has reached. -/
theorem toOpen_slideOpen {tg : Nat} (hf : f u = reactToOpen d u) (hst : (u.chan d).state = .slideOpen)
    (htg : (u.demand d).target = some tg) :
    if tg ≤ (u.chan d).position.val
    then Arrives d u (atChannel d f u) ∧ SameLeaf (u.chan d) ((atChannel d f u).chan d) ∧
      Plain d [.countdownStart d] u (atChannel d f u)
    else atChannel d f u = u := by
  rw [reactToOpen, hst] at hf
  simp only [reactSlideOpen, htg] at hf
  split at hf
  · rename_i hle
    rw [if_pos hle]
    exact arrives_of hb hf
  · rename_i hle
    rw [if_neg hle]
    exact atChannel_of_eq hf

/-- R95: OPEN_BLOCKED arrives at a target whose end window has the position. -/
theorem toOpen_blocked {tg : Nat} (hf : f u = reactToOpen d u) (hst : (u.chan d).state = .openBlocked)
    (htg : (u.demand d).target = some tg) :
    if tg ≤ (u.chan d).position.val + u.cfg.endWindow d
    then Arrives d u (atChannel d f u) ∧ SameLeaf (u.chan d) ((atChannel d f u).chan d) ∧
      Plain d [.countdownStart d] u (atChannel d f u)
    else atChannel d f u = u := by
  rw [reactToOpen, hst] at hf
  simp only [reactOpenBlocked, htg] at hf
  split at hf
  · rename_i hle
    rw [if_pos hle]
    exact arrives_of hb hf
  · rename_i hle
    rw [if_neg hle]
    exact atChannel_of_eq hf

variable (hfrc : u.asserted (.frc d) = false)
include hfrc

theorem opens_of {slide : Bool} (hf : f u = beginOpening d slide u) : Opens d slide u (atChannel d f u) ∧
    SameLeaf (u.chan d) ((atChannel d f u).chan d) ∧ Plain d [] u (atChannel d f u) := by
  have h := enters_beginOpening hb hfrc slide
  rw [← hf] at h
  exact ⟨h.atChannel.opens.1, h.atChannel.opens.2, h.plain⟩

/-- R117: the locked switch is no longer made. -/
theorem toOpen_locked_broken (hf : f u = reactToOpen d u) (hst : (u.chan d).state = .locked)
    (hl : u.asserted (.lks d) = false) : Opens d false u (atChannel d f u) ∧
    SameLeaf (u.chan d) ((atChannel d f u).chan d) ∧ Plain d [] u (atChannel d f u) := by
  have h := enters_enterUnlocking_broken hb hfrc hl
  replace hf : f u = enterUnlocking d u := by rw [hf, reactToOpen, hst]
  rw [← hf] at h
  exact ⟨h.atChannel.opens.1, h.atChannel.opens.2, h.plain⟩

theorem toOpen_locking (hf : f u = reactToOpen d u)
    (hst : (u.chan d).state = .locking ∨ (u.chan d).state = .reseat) : Opens d false u (atChannel d f u) ∧
    SameLeaf (u.chan d) ((atChannel d f u).chan d) ∧ Plain d [] u (atChannel d f u) := by
  unfold reactToOpen at hf
  rcases hst with h | h <;> rw [h] at hf <;> exact opens_of hb hfrc hf

theorem toOpen_byPosition {tg : Nat} (hf : f u = reactToOpen d u)
    (hst : (u.chan d).state = .warning ∨ (u.chan d).state = .standing) (htg : (u.demand d).target = some tg) :
    OpensByPosition d tg u (atChannel d f u) := by
  unfold reactToOpen at hf
  rcases hst with h | h <;> rw [h] at hf <;> exact opensByPosition_of hb hfrc htg hf

/-- R62: OPEN goes on to a target beyond its end window. -/
theorem toOpen_isOpen {tg : Nat} (hf : f u = reactToOpen d u) (hst : (u.chan d).state = .isOpen)
    (htg : (u.demand d).target = some tg) :
    if (u.chan d).position.val + u.cfg.endWindow d < tg
    then Opens d (decide (u.cfg.plugPoint d ≤ (u.chan d).position.val)) u (atChannel d f u) ∧
      SameLeaf (u.chan d) ((atChannel d f u).chan d) ∧ Plain d [] u (atChannel d f u)
    else atChannel d f u = u := by
  rw [reactToOpen, hst] at hf
  simp only [reactOpen, htg] at hf
  split at hf
  · rename_i hlt
    rw [if_pos hlt]
    exact opens_of hb hfrc hf
  · rename_i hlt
    rw [if_neg hlt]
    exact atChannel_of_eq hf

end Columns

/-! ### The channels that act on every record -/

section Every
variable {d : Door} {u : State} {old : Demand} (hk : (u.demand d).kind ≠ .egress) (hrun : u.chanInRun d = true)
  (hb : u.asserted (.bflt d) = false)
include hk hrun hb

/-- R55: UNREFERENCED. -/
theorem unreferenced_acts (hst : (u.chan d).state = .unreferenced) :
    if KeepsWaiting (u.demand d) then atChannel d (react d old) u = u
    else Warns d u (atChannel d (react d old) u) ∧
      SameRetry (u.guard d) ((atChannel d (react d old) u).guard d) ∧ Plain d [] u (atChannel d (react d old) u) := by
  have hf : react d old u = _ :=
    (react_unreferenced hk (by rw [hst]; decide) hrun hst).trans (actUnreferenced_eq hk)
  by_cases hw : KeepsWaiting (u.demand d)
  · rw [if_pos hw] at hf ⊢
    exact atChannel_of_eq hf
  · rw [if_neg hw] at hf ⊢
    exact warns_of hb hf

/-- R64: a WARNING without reference. -/
theorem warning_acts (hst : (u.chan d).state = .warning) (href : (u.chan d).referenced ≠ true) :
    if (u.demand d).blocked = true ∧ (u.demand d).released = true then Settles d u (atChannel d (react d old) u)
    else atChannel d (react d old) u = u := by
  have hf : react d old u = _ := react_warning hk (by rw [hst]; decide) hrun hst href
  unfold reactWarningUnreferenced at hf
  dsimp only at hf
  by_cases hw : (u.demand d).blocked = true ∧ (u.demand d).released = true
  · rw [if_pos (by simp [hw])] at hf
    rw [if_pos hw]
    exact (settles_enterUnreferenced (Enters.refl d u) hf hrun hb hk rfl ⟨rfl, rfl, rfl, rfl⟩ ⟨rfl, rfl⟩).1
  · rw [if_neg (by simpa using hw)] at hf
    rw [if_neg hw]
    exact atChannel_of_eq hf

end Every

/-- R71, R134: the plausibility timer at the exit from EGRESS, with a fault or without. -/
theorem egress_plaus {d : Door} {u : State} {f : State → State} (hf : f u = exitEgress d u)
    (hst : (u.chan d).state = .egress) (hrun : u.chanInRun d = true) (hb : u.asserted (.bflt d) = false)
    (hk : (u.demand d).kind ≠ .egress) : ((atChannel d f u).chan d).plaus = exitPlaus d u := by
  by_cases hno : (u.chan d).fault = none
  · exact (exitEgress_settles hf hno hrun hb hk).2
  · rw [chan_atChannel, (exitEgress_faulted hf hno hst).1]
    rfl

/-- Settles O33, by Table 3-3: the exit from EGRESS, the channels that act on every record, and the two columns. -/
theorem channelsActOnDemandChanges : Obligations.ChannelsActOnDemandChanges := by
  intro d s hfit ⟨hb, hfrc, _⟩
  dsimp only
  intro hne hk
  have hblank := blank_recomputeDoor d s
  have hfresh := (fresh_recomputeDoor (d := d) (s := s))
    ((State.fitted_of_bare (State.bare_of_blank hblank) d).trans hfit)
  rw [recomputeDoor_of_ne hfit hne] at hblank hfresh ⊢
  obtain ⟨u, hu⟩ : ∃ u, s.setDemand d (s.resolve d) = u := ⟨_, rfl⟩
  have hnew : s.resolve d = u.demand d := by rw [← hu, State.demand_setDemand]
  have hchan : s.chan d = u.chan d := by rw [← hu, State.setDemand_chan_of]
  have hguard : s.guard d = u.guard d := by rw [← hu, State.setDemand_guard_of]
  have hcfg : s.cfg = u.cfg := by rw [← hu, State.setDemand_cfg]
  have hsent : s.sent = u.sent := by rw [← hu, State.setDemand_sent]
  have hrunning : s.chanInRun d = u.chanInRun d := by rw [← hu]; rfl
  have hlines : ∀ l, s.asserted l = u.asserted l := fun l => by rw [← hu, State.setDemand_asserted_of]
  rw [hu] at hblank hfresh ⊢
  rw [hlines] at hb hfrc
  rw [hnew] at hk
  simp only [hnew, hchan, hguard, hcfg, hsent, hrunning, hlines]
  refine ⟨fun hst => atChannel_of_eq (react_unfitted hst), fun hst hfault => ?_, fun hst hno hrun => ?_,
    fun hst hrun => ?_, fun hst hno hrun => ?_, fun hst hrun => atChannel_of_eq (react_idle hk hst hrun),
    fun hrun => ⟨unreferenced_acts hk hrun hb, warning_acts hk hrun hb, fun hst he hr hw => ?_⟩⟩
  · obtain ⟨hc, hg, hnotice, hsends⟩ :=
      exitEgress_faulted (f := react d (s.demand d)) (react_egress hk hst) hfault hst
    rw [chan_atChannel, hc, guard_atChannel, hg]
    exact ⟨⟨rfl, rfl, rfl, rfl⟩, ⟨rfl, rfl, rfl, rfl, rfl, rfl⟩, rfl, rfl, rfl, ⟨rfl, rfl⟩, ⟨rfl, rfl, rfl, rfl⟩,
      ⟨rfl, rfl⟩, hfresh, onlyDoor_of_blank hblank, hnotice, hsends⟩
  · exact (exitEgress_settles (react_egress hk hst) hno hrun hb hk).1
  · refine (egress_plaus (react_egress hk hst) hst hrun hb hk).trans ?_
    simp only [exitPlaus, hrun, true_and]
  · obtain ⟨h, hplaus⟩ := exitEgress_idle (f := react d (s.demand d)) (react_egress hk hst) hno hrun
    rw [h.atChannel.chan, h.atChannel.guard]
    exact ⟨⟨rfl, rfl, rfl, rfl⟩, ⟨rfl, rfl, rfl, rfl, rfl, rfl⟩, ⟨rfl, rfl, rfl, rfl, hplaus, rfl, rfl⟩, ⟨rfl, rfl⟩,
      h.plain⟩
  have hf := react_table (old := s.demand d) hk he hrun hst hr hw
  split
  · rename_i hsame
    rw [if_pos hsame] at hf
    exact atChannel_of_eq hf
  rename_i hchanged
  rw [if_neg hchanged] at hf
  split
  · rename_i ho
    rw [if_pos ho] at hf
    exact ⟨toOpen_stays hf, toOpen_unlocks hb hf, toOpen_locked_broken hb hfrc hf, toOpen_stops hb hf,
      toOpen_locking hb hfrc hf, fun tg htg => ⟨fun hst => toOpen_byPosition hb hfrc hf hst htg,
        fun hst => toOpen_slideOpen hb hf hst htg, fun hst => toOpen_isOpen hb hfrc hf hst htg,
        fun hst => toOpen_blocked hb hf hst htg⟩⟩
  · rename_i ho
    rw [if_neg ho] at hf
    exact ⟨toClose_stays hf, toClose_locks hf, toClose_stops hb hf, toClose_warns hb hf, toClose_blocked hb hf⟩

end Sys2Proof.Machine
end

section
/-! SUPPORT. R78, R86, R91, R96, R97: what each operation of a channel and its guard section leaves of the obstruction
record of its doorway. -/

namespace Sys2Proof.Machine

open Safety

/-! ### The record of one guard section -/

/-- R86, R91, R96: the counts of a guard section stay within their bounds, and its cause, capture and exhaustion go with
them. -/
structure Guard.Sound (most : Nat) (g : Guard) : Prop where
  bound : g.reopenCount ≤ most + 1
  cause : g.lastCause.isSome = true ↔ 1 ≤ g.reopenCount
  capture : g.capturedPos.isSome = g.capturedBand.isSome
  retries : g.openExhausted = true ↔ g.openRetry = 3

/-- R57, R91, R97: nothing is counted. -/
def Guard.Clear (g : Guard) : Prop := g.reopenCount = 0 ∧ g.openRetry = 0

/-- The obstruction record of Table 4-1, without the supervisions. -/
def Guard.record (g : Guard) : Nat × Option ObsCause × Option Position × Option (Fin 8) × Fin 4 × Bool :=
  (g.reopenCount, g.lastCause, g.capturedPos, g.capturedBand, g.openRetry, g.openExhausted)

/-- A change of a guard section under which a sound record stays sound, and a clear one clear. -/
structure KeepsRecord (f : Guard → Guard) : Prop where
  sound : ∀ most g, g.Sound most → (f g).Sound most
  clear : ∀ g, g.Clear → (f g).Clear

/-- R80, R83, R88: the supervisions are no part of the record. -/
theorem keepsRecord_of_same {f : Guard → Guard} (h : ∀ g, (f g).record = g.record) : KeepsRecord f := by
  refine ⟨fun most g hg => ?_, fun g hg => ?_⟩ <;> have hr := h g <;>
    simp only [Guard.record, Prod.mk.injEq] at hr <;> obtain ⟨h1, h2, h3, h4, h5, h6⟩ := hr
  · obtain ⟨k1, k2, k3, k4⟩ := hg
    exact ⟨by rwa [h1], by rwa [h1, h2], by rwa [h3, h4], by rwa [h5, h6]⟩
  · exact ⟨h1.trans hg.1, h5.trans hg.2⟩

theorem keepsRecord_zeroReopen : KeepsRecord Guard.zeroReopen :=
  ⟨fun _ _ h => ⟨Nat.zero_le _, by simp [Guard.zeroReopen], rfl, h.retries⟩, fun _ h => ⟨rfl, h.2⟩⟩

theorem keepsRecord_zeroRetry : KeepsRecord Guard.zeroRetry :=
  ⟨fun _ _ h => ⟨h.bound, h.cause, h.capture, by simp [Guard.zeroRetry]⟩, fun _ h => ⟨h.1, rfl⟩⟩

theorem KeepsRecord.comp {f g : Guard → Guard} (hf : KeepsRecord f) (hg : KeepsRecord g) :
    KeepsRecord (fun x => f (g x)) :=
  ⟨fun most x h => hf.sound most _ (hg.sound most x h), fun x h => hf.clear _ (hg.clear x h)⟩

theorem keepsRecord_zeroRecord : KeepsRecord Guard.zeroRecord := keepsRecord_zeroRetry.comp keepsRecord_zeroReopen

/-! ### The record of a doorway -/

/-- The obstruction record of doorway d is sound. -/
def Sane (d : Door) (s : State) : Prop := (s.guard d).Sound s.cfg.reopenMax

/-- The obstruction record of doorway d is sound, and clear in LOCKED. -/
def Tallied (d : Door) (s : State) : Prop := Sane d s ∧ ((s.chan d).state = .locked → (s.guard d).Clear)

theorem tallied_iff (d : Door) (s : State) : Tallied d s ↔ guardOk s d :=
  ⟨fun ⟨⟨h1, h2, h3, h4⟩, h5⟩ => ⟨h1, h2, h3, h4, h5⟩,
    fun ⟨h1, h2, h3, h4, h5⟩ => ⟨⟨h1, h2, h3, h4⟩, h5⟩⟩

section Operations
variable {d : Door} {s t : State}

/-- Out of LOCKED a sound record is all that is asked. -/
theorem Sane.tallied (h : Sane d s) (hst : (s.chan d).state ≠ .locked) : Tallied d s := ⟨h, fun k => absurd k hst⟩

theorem Tallied.of_same (h : Tallied d s) (hg : t.guard d = s.guard d) (hc : t.cfg = s.cfg)
    (hst : (t.chan d).state = .locked → (s.chan d).state = .locked) : Tallied d t := by
  unfold Tallied Sane
  rw [hg, hc]
  exact ⟨h.1, fun k => h.2 (hst k)⟩

/-! ### The named updates -/

theorem Tallied.modChan (h : Tallied d s) (f : Channel → Channel)
    (hf : ∀ c, (f c).state = .locked → c.state = .locked) : Tallied d (s.modChan d f) :=
  h.of_same rfl rfl (fun k => hf _ (by rwa [State.chan_modChan] at k))

/-- Two changes of one guard section are one. -/
theorem State.modGuard_modGuard (s : State) (d : Door) (f g : Guard → Guard) :
    (s.modGuard d f).modGuard d g = s.modGuard d (fun x => g (f x)) := by
  unfold State.modGuard
  rw [show (s.setGuard d (f (s.guard d))).guard d = f (s.guard d) from State.guard_modGuard s d f]
  simp [State.setGuard]

theorem Sane.modGuard (h : Sane d s) {f : Guard → Guard} (hf : KeepsRecord f) : Sane d (s.modGuard d f) := by
  unfold Sane
  rw [State.guard_modGuard]
  exact hf.sound _ _ h

theorem Tallied.modGuard (h : Tallied d s) {f : Guard → Guard} (hf : KeepsRecord f) : Tallied d (s.modGuard d f) :=
  ⟨h.1.modGuard hf, fun k => by rw [State.guard_modGuard]; exact hf.clear _ (h.2 k)⟩

theorem Tallied.setDemand (h : Tallied d s) (r : Demand) : Tallied d (s.setDemand d r) := h
theorem Tallied.dropGrd (h : Tallied d s) : Tallied d (s.dropGrd d) := h
theorem Tallied.send (h : Tallied d s) (c : Instr) : Tallied d (s.send c) := h
theorem Tallied.raiseDoor (h : Tallied d s) (k : NoticeKind) (e : Door) : Tallied d (s.raiseDoor k e) := h

/-! ### Entries and faults -/

theorem Sane.idle (h : Sane d s) {st : ChState} {dr : Drive} {sol : Bool} {lamp : Lamp} :
    Sane d (enterState d st dr sol lamp s) :=
  Sane.modGuard (s := s.modChan d (·.rest st dr sol lamp)) h (keepsRecord_of_same (fun _ => rfl))

theorem Sane.enterState (h : Sane d s) {st : ChState} (hst : st ≠ .locked) (dr : Drive) (sol : Bool) (lamp : Lamp) :
    Tallied d (enterState d st dr sol lamp s) :=
  h.idle.tallied (by rwa [state_enterState])

theorem Tallied.clearReferenced (h : Tallied d s) : Tallied d (clearReferenced d s) := by
  have h1 := h.modChan (fun c => { c with referenced := false }) (fun _ => id)
  unfold Machine.clearReferenced
  dsimp only
  split
  · exact h1.setDemand _
  · exact h1

theorem Sane.enterFaulted (h : Sane d s) : Tallied d (enterFaulted d s) :=
  (h.enterState (st := .faulted) (by decide) .free false .off).clearReferenced

theorem Tallied.detectCause (h : Tallied d s) (f : FaultCause) : Tallied d (detectCause d f s) := by
  have h1 := (h.modChan (fun c => { c with fault := some (recordCause c f) }) (fun _ => id)).raiseDoor .fault d
  unfold Machine.detectCause
  dsimp only
  split
  · exact h1
  · exact h1.1.enterFaulted

theorem Tallied.bridgeCheck (h : Tallied d s) : Tallied d (bridgeCheck d s) := by
  unfold Machine.bridgeCheck
  split
  · exact h.detectCause _
  · exact h

theorem Tallied.startPlaus (h : Tallied d s) : Tallied d (startPlaus d s) := by
  unfold Machine.startPlaus
  split
  · exact h.modChan _ (fun _ => by exact id)
  · exact h

/-- An entry with a timer of its state. -/
theorem Sane.enterTimed (h : Sane d s) {st : ChState} (hst : st ≠ .locked) (dr : Drive) (sol : Bool) (lamp : Lamp)
    {f : Channel → Channel} (hf : ∀ c, (f c).state = c.state) :
    Tallied d (Machine.bridgeCheck d ((Machine.enterState d st dr sol lamp s).modChan d f)) :=
  ((h.enterState hst dr sol lamp).modChan f (fun c k => (hf c).symm.trans k)).bridgeCheck

/-! ### Opening (R94, R96, R97) -/

theorem Sane.enterOpen (h : Sane d s) : Tallied d (enterOpen d s) := by
  refine (((h.enterState (st := .isOpen) (by decide) _ _ _).modGuard ?_).send _).bridgeCheck
  cases governedByGrd d (s.demand d)
  · exact keepsRecord_zeroRecord
  · exact keepsRecord_zeroRetry

/-- R96: the retries are exhausted at the third obstruction, and not before. -/
theorem Guard.Sound.retry {most : Nat} {g : Guard} (h : g.Sound most) (n : Fin 4) (b : Bool)
    (hr : b = true ↔ n = 3) : Guard.Sound most { g with openRetry := n, openExhausted := b } :=
  ⟨h.bound, h.cause, h.capture, hr⟩

theorem Sane.openingObstruction (h : Sane d s) : Tallied d (openingObstruction d s) := by
  have hg : (Machine.enterState d .openBlocked .brake false .off s).guard d = (s.guard d).idle := by
    simp [Machine.enterState]
  have h1 : (s.guard d).idle.Sound s.cfg.reopenMax :=
    (keepsRecord_of_same (f := Guard.idle) (fun _ => rfl)).sound _ _ h
  have h2 : ∀ f, (f (s.guard d).idle).Sound s.cfg.reopenMax →
      Tallied d ((Machine.enterState d .openBlocked .brake false .off s).modGuard d f) := fun f hf => by
    refine Sane.tallied ?_ ?_
    · unfold Sane
      rw [State.guard_modGuard, hg]
      exact hf
    · show ((Machine.enterState d .openBlocked .brake false .off s).chan d).state ≠ .locked
      rw [state_enterState]
      decide
  have hthree : ((3 : Fin 4) : Nat) = 3 := rfl
  unfold Machine.openingObstruction
  dsimp only
  split
  · rename_i hn
    have hno : (s.guard d).openRetry ≠ 3 := fun k => by
      rw [k, hthree] at hn
      exact absurd hn (by decide)
    have hno' : Fin.ofNat 4 (min 3 ((s.guard d).openRetry.val + 1)) ≠ 3 := fun k => by
      have hk := congrArg Fin.val k
      simp only [Fin.val_ofNat, hthree] at hk
      omega
    have h3 := h2 (fun g => { g with openRetry := Fin.ofNat 4 (min 3 ((s.guard d).openRetry.val + 1)) })
      (h1.retry _ _ (iff_of_false (fun k => hno (h.retries.mp k)) hno'))
    exact (h3.modChan (fun c => { c with retryWait := some s.cfg.openRetryTime }) (fun _ => id)).bridgeCheck
  · rename_i hn
    have hmin : min 3 ((s.guard d).openRetry.val + 1) = 3 := by omega
    rw [hmin, State.modGuard_modGuard]
    have h3 := h2 (fun g => { g with openRetry := Fin.ofNat 4 3, openExhausted := true })
      (h1.retry _ _ (iff_of_true rfl rfl))
    exact ((h3.raiseDoor .standing d).send (.countdownStart d)).bridgeCheck

/-- An entry into a motion state with its profile and its intervals. -/
theorem Sane.enterMotion (h : Sane d s) {st : ChState} (dr : Drive) (sol : Bool) (lamp : Lamp)
    {f : Channel → Channel} (hf : ∀ c, (f c).state ≠ .locked) (n : Nat) :
    Tallied d (Machine.bridgeCheck d (((Machine.enterState d st dr sol lamp s).modChan d f).modGuard d
      (·.beginMotion n))) := by
  have h1 : Sane d (((Machine.enterState d st dr sol lamp s).modChan d f).modGuard d (·.beginMotion n)) :=
    Sane.modGuard (s := (Machine.enterState d st dr sol lamp s).modChan d f) (h.idle (dr := dr))
      (keepsRecord_of_same (fun _ => rfl))
  refine (h1.tallied ?_).bridgeCheck
  show (((Machine.enterState d st dr sol lamp s).modChan d f).chan d).state ≠ .locked
  rw [State.chan_modChan]
  exact hf _

theorem state_openProfile_ne_locked (c : Channel) (cfg : Image) (e : Door) (slide : Bool) :
    (c.openProfile cfg e slide).state ≠ .locked := by
  cases slide <;> simp [Channel.openProfile]

theorem state_closeProfile_ne_locked (c : Channel) (cfg : Image) (e : Door) (slide : Bool) :
    (c.closeProfile cfg e slide).state ≠ .locked := by
  cases slide <;> simp [Channel.closeProfile]

theorem Sane.beginOpening (h : Sane d s) (slide : Bool) : Tallied d (beginOpening d slide s) := by
  have h1 := h.enterMotion (st := .plugOut) .free false .off
    (f := fun c => { c.openProfile s.cfg d slide with travel := some (.opening, s.cfg.travelOpen d) })
    (fun c => state_openProfile_ne_locked c s.cfg d slide) (s.cfg.stallInterval d)
  unfold Machine.beginOpening
  dsimp only
  split
  · exact h1.1.openingObstruction
  · exact h1

theorem Tallied.openByPosition (h : Tallied d s) : Tallied d (openByPosition d s) := by
  unfold Machine.openByPosition
  dsimp only
  split
  · exact h
  split
  · exact h.1.enterOpen
  · exact h.1.beginOpening _

/-! ### Locking and referencing (R57, R91, R97) -/

theorem Sane.enterUnlocking (h : Sane d s) : Tallied d (enterUnlocking d s) := by
  have h1 := h.enterTimed (st := .unlocking) (by decide) .brake true .off
    (f := fun c => { c with unlock := some (.first, s.cfg.unlockTime d) }) (fun _ => rfl)
  unfold Machine.enterUnlocking
  dsimp only
  split
  · exact h1.1.beginOpening _
  · exact h1

/-- R57: LOCKED is entered with the record zeroed. -/
theorem Sane.enterLocked (h : Sane d s) : Tallied d (enterLocked d s) := by
  have h1 : Sane d ((Machine.enterState d .locked .free false .off s).modChan d (·.setPos 0)) :=
    Sane.modGuard (s := s.modChan d _) h (keepsRecord_of_same (fun _ => rfl))
  refine ⟨h1.modGuard keepsRecord_zeroRecord, fun _ => ?_⟩
  rw [Machine.enterLocked, State.guard_modGuard]
  exact ⟨rfl, rfl⟩

theorem Sane.enterLocking (h : Sane d s) : Tallied d (enterLocking d s) := by
  have h1 := h.enterTimed (st := .locking) (by decide) (.driveClose (s.cfg.pressLevel d)) false .on
    (f := fun c => { c with lockWait := some (s.cfg.lockTime d) }) (fun _ => rfl)
  unfold Machine.enterLocking
  dsimp only
  split
  · exact h1.1.enterLocked
  · exact h1

theorem Sane.enterReseat (h : Sane d s) : Tallied d (enterReseat d s) :=
  h.enterTimed (st := .reseat) (by decide) _ _ _ (fun _ => by rfl)

theorem Sane.takeReference (h : Sane d s) (press : Bool) : Tallied d (takeReference d press s) := by
  have h1 : Sane d ((s.modChan d (fun c => { c.setPos 0 with referenced := true })).modGuard d Guard.zeroRetry) :=
    Sane.modGuard (s := s.modChan d _) h keepsRecord_zeroRetry
  have h2 : ∀ u, Sane d u →
      Tallied d (if press then Machine.enterLocking d u else Machine.enterLocked d u) := fun u hu => by
    cases press
    · exact hu.enterLocked
    · exact hu.enterLocking
  have h2 := h2 _ h1
  unfold Machine.takeReference
  dsimp only
  generalize (if press = true then _ else _ : State) = s2 at h2 ⊢
  have h3 := h2.setDemand (s2.resolve d)
  split
  · exact h2
  split
  · split
    · exact h3.1.enterUnlocking
    split
    · exact h3.1.beginOpening _
    · exact h3
  · exact h3

/-! ### Closing (R86, R88, R90) -/

theorem Sane.enterWarning (h : Sane d s) : Tallied d (enterWarning d s) :=
  h.enterTimed (st := .warning) (by decide) _ _ _ (fun _ => by rfl)
theorem Sane.enterStopping (h : Sane d s) : Tallied d (enterStopping d s) :=
  h.enterTimed (st := .stopping) (by decide) _ _ _ (fun _ => by rfl)
theorem Sane.enterStanding (h : Sane d s) : Tallied d (enterStanding d s) :=
  h.enterState (st := .standing) (by decide) .free false (.flashing true)
theorem Sane.enterEgress (h : Sane d s) : Tallied d (enterEgress d s) :=
  ((h.enterState (st := .egress) (by decide) .free true .off).modChan (fun c => { c with plaus := none })
    (fun _ => id)).clearReferenced

theorem Tallied.endRelief (h : Tallied d s) : Tallied d (endRelief d s) := by
  unfold Machine.endRelief
  split
  · exact h.1.enterStanding
  split
  · exact h.openByPosition
  · exact h.1.enterWarning
  · exact h.1.enterWarning
  · exact h.1.enterEgress

theorem Sane.enterRelief (h : Sane d s) : Tallied d (enterRelief d s) := by
  have h1 := ((h.enterState (st := .relief) (by decide) (.driveOpen (s.cfg.reliefLevel d)) false .on).modGuard
    (f := fun g => { g with reliefSteps := 0, stage := .single, stallTimer := some (s.cfg.stallInterval d) })
    (keepsRecord_of_same (fun _ => rfl))).bridgeCheck
  unfold Machine.enterRelief
  dsimp only
  split
  · exact h1.endRelief
  · exact h1

/-- R86: a closing detection counts up to REOPEN_MAX + 1, with its cause and its capture. -/
theorem Sane.closingDetection (h : Sane d s) (c : ObsCause) : Tallied d (closingDetection d c s) := by
  have h1 : Sane d (s.modGuard d (fun g => { g with
      reopenCount := min ((s.guard d).reopenCount + 1) (s.cfg.reopenMax + 1), lastCause := some c
      capturedPos := if (s.chan d).referenced then some (s.chan d).position else none
      capturedBand := if (s.chan d).referenced then some (bandOf (s.chan d).position) else none })) := by
    unfold Sane
    rw [State.guard_modGuard]
    refine ⟨Nat.min_le_right _ _, iff_of_true rfl (by simp), ?_, h.retries⟩
    cases (s.chan d).referenced <;> rfl
  unfold Machine.closingDetection
  refine Sane.enterRelief ?_
  split
  · exact h1
  · exact h1

theorem Sane.forceDetection (h : Sane d s) : Tallied d (forceDetection d s) := by
  unfold Machine.forceDetection
  split
  · exact h.openingObstruction
  · exact h.closingDetection _

theorem Tallied.senseAtStart (h : Tallied d s) : Tallied d (senseAtStart d s) := by
  unfold Machine.senseAtStart
  split
  · exact h.1.closingDetection _
  split
  · exact h.1.closingDetection _
  · exact h

theorem Sane.beginClosing (h : Sane d s) : Tallied d (beginClosing d s) := by
  have h1 := fun slide => h.enterMotion (st := .plugIn) .free false .on
    (f := fun c => { c.closeProfile s.cfg d slide with travel := some (.closing, s.cfg.travelClose d) })
    (fun c => state_closeProfile_ne_locked c s.cfg d slide) (s.cfg.stallInterval d)
  unfold Machine.beginClosing
  dsimp only
  split
  · exact (h1 _).1.enterLocking
  · exact (h1 _).senseAtStart

theorem Sane.endReferencing (h : Sane d s) : Tallied d (endReferencing d s) := h.takeReference _

theorem Sane.enterReferencing (h : Sane d s) : Tallied d (enterReferencing d s) := by
  have h1 := (((h.enterState (st := .referencing) (by decide) (.driveClose (s.cfg.refLevel d)) false .on).modChan
    (fun c => { c with threshold := s.cfg.closeForce d 0, travel := some (.referencing, 2 * s.cfg.travelClose d) })
    (fun _ => id)).modGuard (f := (·.beginMotion (s.cfg.stallInterval d)))
    (keepsRecord_of_same (fun _ => rfl))).bridgeCheck
  unfold Machine.enterReferencing
  dsimp only
  split
  · split
    · exact h1.1.endReferencing
    · exact h1.senseAtStart
  · exact h1

/-! ### UNREFERENCED, EGRESS and the reaction to a record -/

theorem Tallied.actUnreferenced (h : Tallied d s) : Tallied d (actUnreferenced d s) := by
  unfold Machine.actUnreferenced
  dsimp only
  split
  · exact h.1.enterEgress
  · exact h
  · split
    · exact h
    · exact h.1.enterWarning
  · split
    · exact h
    · exact h.1.enterWarning

theorem Sane.enterUnreferenced (h : Sane d s) : Tallied d (enterUnreferenced d s) := by
  have h1 := h.enterState (st := .unreferenced) (by decide) .free false .off
  unfold Machine.enterUnreferenced
  dsimp only
  split
  · exact h1
  split
  · exact h1.1.takeReference _
  · exact h1.actUnreferenced

theorem Sane.exitEgress (h : Sane d s) : Tallied d (exitEgress d s) := by
  have h1 := h.enterState (st := .unreferenced) (by decide) .free false .off
  have hend : ∀ u : State, Tallied d u →
      Tallied d (if (u.chan d).fault.isSome then Machine.enterFaulted d u else Machine.enterUnreferenced d u) := by
    intro u hu
    split
    · exact hu.1.enterFaulted
    · exact hu.1.enterUnreferenced
  refine hend _ ?_
  split
  · exact h1.startPlaus
  · exact h1

theorem Tallied.reactOpen (h : Tallied d s) : Tallied d (reactOpen d s) := by
  unfold Machine.reactOpen
  dsimp only
  split
  · exact h
  split
  · exact h.1.beginOpening _
  · exact h

theorem Tallied.reactSlideOpen (h : Tallied d s) : Tallied d (reactSlideOpen d s) := by
  unfold Machine.reactSlideOpen
  split
  · exact h
  split
  · exact h.1.enterOpen
  · exact h

theorem Tallied.reactOpenBlocked (h : Tallied d s) : Tallied d (reactOpenBlocked d s) := by
  unfold Machine.reactOpenBlocked
  split
  · exact h
  split
  · exact h.1.enterOpen
  · exact h

theorem Tallied.reactToOpen (h : Tallied d s) : Tallied d (reactToOpen d s) := by
  unfold Machine.reactToOpen
  cases (s.chan d).state with
  | unfitted | unreferenced | referencing | unlocking | plugOut | stopping | relief | egress | faulted => exact h
  | locked => exact h.1.enterUnlocking
  | slideOpen => exact h.reactSlideOpen
  | isOpen => exact h.reactOpen
  | openBlocked => exact h.reactOpenBlocked
  | warning | standing => exact h.openByPosition
  | slideClose | plugIn => exact h.1.enterStopping
  | locking | reseat => exact h.1.beginOpening _

theorem Tallied.reactToClose (h : Tallied d s) : Tallied d (reactToClose d s) := by
  unfold Machine.reactToClose
  cases (s.chan d).state with
  | unfitted | unreferenced | referencing | locked | stopping | warning | slideClose | plugIn | locking | reseat |
    relief | standing | egress | faulted => exact h
  | unlocking => exact h.1.enterLocked
  | plugOut | slideOpen => exact h.1.enterStopping
  | isOpen => exact h.1.enterWarning
  | openBlocked => exact (h.1.modGuard keepsRecord_zeroRetry).enterWarning

theorem Tallied.react (h : Tallied d s) (old : Demand) : Tallied d (react d old s) := by
  unfold Machine.react
  dsimp only
  split
  · exact h
  split
  · split
    · exact h
    · exact h.1.enterEgress
  split
  · exact h.1.exitEgress
  split
  · exact h
  split
  · exact h.actUnreferenced
  split
  · unfold reactWarningUnreferenced
    dsimp only
    split
    · exact h.1.enterUnreferenced
    · exact h
  split
  · exact h
  split
  · exact h.reactToOpen
  · exact h.reactToClose

theorem Tallied.atChannel {f : State → State} (h : Tallied d (f s)) : Tallied d (atChannel d f s) := by
  rcases atChannel_cases d f s with k | ⟨c, k⟩
  · rwa [k]
  · rw [k]
    exact h.send c

theorem Tallied.recomputeDoor (h : Tallied d s) : Tallied d (recomputeDoor d s) := by
  unfold Machine.recomputeDoor
  dsimp only
  split
  · exact h
  split
  · exact h
  · exact ((h.setDemand _).react _).atChannel

end Operations

end Sys2Proof.Machine
end

section
/-! SUPPORT. R86, R91, R96, R97: a sound obstruction record is kept by every event at its channel and guard section
(Machine/Motion.lean, Machine/Sensing.lean, Machine/DoorRequests.lean, Machine/Start.lean). -/

namespace Sys2Proof.Machine

open Safety

section Events
variable {d : Door} {s : State}

/-! ### The encoder -/

theorem Sane.passOpening (h : Sane d s) (sl : Bool) : Tallied d (passOpening d sl s) := by
  have h1 : Sane d (s.modChan d (Channel.openProfile s.cfg d sl)) := h
  have h2 := h1.tallied (by rw [State.chan_modChan]; exact state_openProfile_ne_locked _ _ _ _)
  unfold Machine.passOpening
  dsimp only
  split
  · exact h2
  · exact h2.bridgeCheck

theorem Sane.passClosing (h : Sane d s) (sl : Bool) : Tallied d (passClosing d sl s) := by
  have h1 : Sane d (s.modChan d (Channel.closeProfile s.cfg d sl)) := h
  have h2 := h1.tallied (by rw [State.chan_modChan]; exact state_closeProfile_ne_locked _ _ _ _)
  unfold Machine.passClosing
  dsimp only
  split
  · exact h2
  · exact h2.bridgeCheck

theorem Tallied.stepGeometry (h : Tallied d s) : Tallied d (stepGeometry d s) := by
  unfold Machine.stepGeometry
  dsimp only
  cases (s.chan d).state with
  | plugOut => exact h.1.passOpening _
  | slideOpen =>
    dsimp only
    split
    · split
      · exact h.1.enterOpen
      · exact h.1.passOpening _
    · exact h.1.passOpening _
  | slideClose =>
    dsimp only
    split
    · exact (h.1.passClosing _).1.enterLocking
    · exact h.1.passClosing _
  | plugIn =>
    dsimp only
    split
    · exact h.1.enterLocking
    · exact h.1.passClosing _
  | unfitted | unreferenced | referencing | locked | unlocking | isOpen | openBlocked | stopping | warning | locking |
    reseat | relief | standing | egress | faulted => exact h

theorem Tallied.stepInSlide (h : Tallied d s) (b : Channel) : Tallied d (stepInSlide d b s) := by
  unfold Machine.stepInSlide
  dsimp only
  split
  · exact h.detectCause _
  · exact h

theorem Tallied.stepInMotion (h : Tallied d s) (b : Channel) : Tallied d (stepInMotion d b s) := by
  have h1 := h.modGuard (f := fun g =>
    { g with blank := min ((s.guard d).blank + 1) (s.cfg.blankSteps d), stage := .normal
             stallTimer := some (s.cfg.stallInterval d) }) (keepsRecord_of_same (fun _ => rfl))
  have hend : ∀ (u : State) (p q : Prop) [Decidable p] [Decidable q], Tallied d u →
      Tallied d (if p then Machine.closingDetection d .edge u else if q then Machine.forceDetection d u else u) := by
    intro u p q _ _ hu
    split
    · exact hu.1.closingDetection _
    split
    · exact hu.1.forceDetection
    · exact hu
  unfold Machine.stepInMotion
  dsimp only
  refine hend _ _ _ ?_
  split
  · exact h1.modChan _ (fun _ => by exact id)
  · exact h1

theorem Tallied.stepInRelief (h : Tallied d s) : Tallied d (stepInRelief d s) := by
  have h1 := h.modGuard (f := fun g =>
    { g with reliefSteps := (s.guard d).reliefSteps + 1, stallTimer := some (s.cfg.stallInterval d) })
    (keepsRecord_of_same (fun _ => rfl))
  unfold Machine.stepInRelief
  dsimp only
  split
  · exact h1.endRelief
  · exact h1

theorem Tallied.stepAtGuard (h : Tallied d s) (b : Channel) : Tallied d (stepAtGuard d b s) := by
  unfold Machine.stepAtGuard
  split
  · exact h.stepInMotion b
  split
  · exact h.stepInRelief
  · exact h

theorem Tallied.afterStep (h : Tallied d s) (b : Channel) : Tallied d (afterStep d b s) :=
  ((h.stepGeometry).stepInSlide b).stepAtGuard b

theorem Tallied.takeStep (h : Tallied d s) (dir : Dir) : Tallied d (takeStep d dir s) := by
  have h1 := h.modChan (·.count dir) (fun c k => (c.state_count dir).symm.trans k)
  unfold Machine.takeStep
  dsimp only
  split
  · exact h
  split
  · exact h1
  split
  · exact (h.detectCause _).atChannel
  · exact (h1.afterStep _).atChannel

/-! ### Switches and timers -/

theorem Tallied.pairMade (h : Tallied d s) : Tallied d (pairMade d s) := by
  unfold Machine.pairMade
  dsimp only
  split
  · exact h.1.enterLocked
  split
  · exact h.1.takeReference _
  · exact h

theorem Tallied.clsMade (h : Tallied d s) : Tallied d (clsMade d s) := by
  have h1 := h.modChan (fun c => { c with plaus := none }) (fun _ => id)
  unfold Machine.clsMade
  dsimp only
  split
  · exact h1.detectCause _
  split
  · exact h1.1.endReferencing
  split
  · exact h1.1.enterLocking
  split
  · exact h1.pairMade
  · exact h1

theorem Tallied.clsBroken (h : Tallied d s) : Tallied d (clsBroken d s) := by
  have hend : ∀ u, Tallied d u →
      Tallied d (if (u.chan d).state = .locked then Machine.detectCause d (.lockLost .closed) u else u) := by
    intro u hu
    split
    · exact hu.detectCause _
    · exact hu
  unfold Machine.clsBroken
  refine hend _ ?_
  split
  · exact h.modChan _ (fun _ => by exact id)
  · exact h

theorem Tallied.lksMade (h : Tallied d s) : Tallied d (lksMade d s) := by
  unfold Machine.lksMade
  split
  · exact h.pairMade
  split
  · exact h
  · exact h.modChan _ (fun _ => by exact id)

theorem Tallied.lksBroken (h : Tallied d s) : Tallied d (lksBroken d s) := by
  have h1 := h.modChan (fun c => { c with plaus := none }) (fun _ => id)
  unfold Machine.lksBroken
  dsimp only
  split
  · exact h1.detectCause _
  split
  · exact h1.1.beginOpening _
  · exact h1

theorem Tallied.warningEnd (h : Tallied d s) : Tallied d (warningEnd d s) := by
  unfold Machine.warningEnd
  split
  · exact h
  split
  · exact h.1.beginClosing
  · exact h.1.enterReferencing

theorem Tallied.pauseEnd (h : Tallied d s) : Tallied d (pauseEnd d s) := by
  unfold Machine.pauseEnd
  split
  · exact h
  split
  · exact h.openByPosition
  · exact h.1.enterWarning
  · exact h.1.enterWarning
  · exact h.1.enterEgress

theorem Tallied.travelEnd (h : Tallied d s) : Tallied d (travelEnd d s) := by
  unfold Machine.travelEnd
  split
  · exact h
  · exact h.detectCause _

theorem Tallied.unlockWaitEnd (h : Tallied d s) : Tallied d (unlockWaitEnd d s) := by
  unfold Machine.unlockWaitEnd
  split
  · exact h
  · exact h.modChan _ (fun _ => by exact id)
  · exact h.modChan _ (fun _ => by exact id)
  · exact h.detectCause _

theorem Tallied.lockWaitEnd (h : Tallied d s) : Tallied d (lockWaitEnd d s) := by
  unfold Machine.lockWaitEnd
  split
  · exact h
  split
  · exact h.1.enterReseat
  · exact h.detectCause _

theorem Tallied.retryNow (h : Tallied d s) : Tallied d (retryNow d s) := by
  unfold Machine.retryNow
  split
  · exact h.openByPosition
  · exact h

theorem Tallied.retryWaitEnd (h : Tallied d s) : Tallied d (retryWaitEnd d s) := by
  unfold Machine.retryWaitEnd
  split
  · exact h
  · exact h.retryNow

theorem Tallied.plausEnd (h : Tallied d s) : Tallied d (plausEnd d s) := by
  unfold Machine.plausEnd
  split
  · exact h
  · exact (h.modChan _ (fun _ => by exact id)).detectCause _

/-! ### The guard section -/

theorem Tallied.edgeAsserted (h : Tallied d s) : Tallied d (edgeAsserted d s) := by
  unfold Machine.edgeAsserted
  split
  · exact h.1.closingDetection _
  split
  · exact h.modChan _ (fun _ => by exact id)
  · exact h

theorem Tallied.forceAsserted (h : Tallied d s) : Tallied d (forceAsserted d s) := by
  unfold Machine.forceAsserted
  split
  · exact h.1.forceDetection
  · exact h

theorem Tallied.stallIntervalEnd (h : Tallied d s) : Tallied d (stallIntervalEnd d s) := by
  unfold Machine.stallIntervalEnd
  split
  · exact (h.modChan _ (fun _ => by exact id)).modGuard (keepsRecord_of_same (fun _ => by rfl))
  · exact h.endRelief
  · exact h
  · exact h

theorem Sane.stallDetection (h : Sane d s) : Tallied d (stallDetection d s) := by
  unfold Machine.stallDetection
  split
  · split
    · split
      · exact h.enterOpen
      · exact h.openingObstruction
    · exact h.openingObstruction
  · exact h.closingDetection _

theorem Tallied.stallGraceEnd (h : Tallied d s) : Tallied d (stallGraceEnd d s) := by
  unfold Machine.stallGraceEnd
  split
  · exact h.1.stallDetection
  · exact h

/-! ### Requests at a doorway and the entry into RUN -/

theorem Tallied.clearStanding (h : Tallied d s) : Tallied d (clearStanding d s) := by
  unfold Machine.clearStanding
  split
  · exact h.openByPosition
  · exact h.1.enterWarning
  · exact h.1.enterWarning
  · exact h.1.enterEgress

theorem Tallied.clearDoor (h : Tallied d s) : Tallied d (clearDoor d s) := by
  have h1 := h.modGuard keepsRecord_zeroRecord
  unfold Machine.clearDoor
  dsimp only
  split
  · exact h1.clearStanding
  split
  · exact (h1.modChan _ (fun _ => by exact id)).retryNow
  · exact h1

theorem Tallied.clearFaultAt (h : Tallied d s) : Tallied d (clearFaultAt d s) := by
  have h1 := ((h.modChan (fun c => { c with fault := none }) (fun _ => id)).modGuard keepsRecord_zeroRecord).startPlaus
  unfold Machine.clearFaultAt
  dsimp only
  split
  · exact h1.1.enterUnreferenced
  · exact h1

theorem Tallied.takeRunEntry (h : Tallied d s) : Tallied d (takeRunEntry d s) := by
  unfold Machine.takeRunEntry
  dsimp only
  split
  · exact h
  split
  · exact h.startPlaus.detectCause _
  · exact h.startPlaus.1.enterUnreferenced

end Events

end Sys2Proof.Machine
end

section
/-! SUPPORT. R86, R91, R96, R97: the requests and the events at the table leave every obstruction record sound. -/

namespace Sys2Proof.Machine

open Claims Safety

/-- Every obstruction record is sound. -/
structure Recorded (s : State) : Prop where
  tallied : ∀ d, Tallied d s


section Records
variable {s t u : State} {d : Door}

/-- The records stand where the doorways and the configuration do. -/
theorem recorded_of_same (hs : Recorded s) (hch : t.chans = s.chans) (hg : t.guards = s.guards) (hc : t.cfg = s.cfg) :
    Recorded t :=
  ⟨fun d => (hs.tallied d).of_same (by rw [State.guard, State.guard, hg]) hc
    (fun k => by rwa [State.chan, hch] at k)⟩

/-- What the lines, the ports and the Car Loop Unit write is nothing to a record. -/
theorem recorded_closed : LinksClosed {s | Recorded s} where
  still _ _ hs ht := recorded_of_same hs ht.chans ht.guards ht.cfg
  send _ _ hs _ := ⟨hs.tallied⟩

/-- An event at one doorway leaves the records of the others. -/
theorem recorded_of_blank (hs : Recorded s) (hb : t.blank d = s.blank d) (ht : Tallied d t) : Recorded t := by
  refine ⟨fun e => ?_⟩
  by_cases he : e = d
  · exact he ▸ ht
  · exact (hs.tallied e).of_same (State.guard_of_blank hb he) (State.cfg_of_bare (State.bare_of_blank hb))
      (fun k => State.chan_of_blank hb he ▸ k)

/-- A channel whose state stands. -/
theorem recorded_modChan {f : Channel → Channel} (hs : Recorded s) (hf : ∀ c, (f c).state = c.state) :
    Recorded (s.modChan d f) :=
  recorded_of_blank hs (State.blank_modChan d s f) ((hs.tallied d).modChan f (fun c k => (hf c).symm.trans k))

/-- R41, R43: a recomputation, after a write of the table. -/
theorem recorded_recompute (hs : Recorded s) (hn : u.noSlots = s.noSlots) (sc : DoorSet) :
    Recorded (recompute sc u) := by
  have hsame := SameToDoors.of_noSlots hn
  refine mem_foldl (P := {s | Recorded s}) (fun v d hv => ?_) doors
    (recorded_of_same hs hsame.chans hsame.guards hsame.cfg)
  split
  · exact recorded_of_blank hv (blank_recomputeDoor d v) (hv.tallied d).recomputeDoor
  · exact hv

/-! ### Events at the table -/

theorem recorded_tableRetire (hs : Recorded s) (is : List SlotNo) (r : Reason) (own : Bool) :
    Recorded (tableRetire is r own s) :=
  recorded_recompute hs (State.noSlots_retireSlots s is r own) _

theorem recorded_createInternal (hs : Recorded s) (q : Placement) : Recorded (createInternal q s) := by
  obtain ⟨v, hv, hn, -⟩ := createInternal_eq q s
  rw [hv]
  exact recorded_recompute hs hn _

theorem recorded_takePlacement (hs : Recorded s) (q : Placement) : Recorded (takePlacement q s) := by
  have hc := recorded_createInternal hs q
  have hr : ∀ a, Recorded (renewInternal q a s) := fun a => recorded_recompute hs (State.noSlots_setSlot _ _ _) _
  unfold takePlacement
  split
  · exact hs
  split
  · exact hs
  · exact ite_mem _ hs hc
  · exact ite_mem _ hs (hr _)
  · exact hc
  · exact hs
  · exact hc
  · exact hr _
  · exact hc
  · exact hr _

theorem recorded_takeRaise (hs : Recorded s) (i : SlotNo) : Recorded (takeRaise i s) := by
  unfold takeRaise
  split
  · exact hs
  split
  · exact hs
  split
  · exact recorded_recompute hs (State.noSlots_setSlot _ _ _) _
  · exact recorded_recompute hs (State.noSlots_setSlot _ _ _) _
  · exact hs
  · exact hs
  · exact hs

theorem recorded_takeExpiry (hs : Recorded s) (i : SlotNo) : Recorded (takeExpiry i s) := by
  rw [takeExpiry_eq]
  exact recorded_tableRetire hs _ _ _

theorem recorded_takeChannelEntry (hs : Recorded s) (d : Door) (e : EntryKind) : Recorded (takeChannelEntry d e s) :=
  recorded_recompute hs ((State.noSlots_startCountdowns _ d).trans (State.noSlots_retireSlots s _ _ _)) _

/-! ### The requests at the table (Chapter 1) -/

theorem recorded_placeIn (hs : Recorded s) (a : PlaceAsked) (x : Issuer) (i : SlotNo) :
    Recorded (placeIn a x i s).1 :=
  recorded_recompute hs ((State.noSlots_examine _ _).trans (State.noSlots_setSlot _ _ _)) _

theorem recorded_doPlace (hs : Recorded s) (x : Issuer) (q : PlaceParams) : Recorded (doPlace x q s).1 := by
  unfold doPlace
  split
  · exact hs
  · split
    · exact hs
    split
    · exact hs
    split
    · exact hs
    split
    · exact hs
    split
    · exact hs
    · exact recorded_placeIn hs _ x _

theorem recorded_doAmend (hs : Recorded s) (x : Issuer) (q : AmendParams) : Recorded (doAmend x q s).1 := by
  unfold doAmend
  split
  · exact hs
  refine mem_onLive hs (fun i b _ => ?_)
  dsimp only
  split
  · exact hs
  split
  · exact hs
  split
  · exact hs
  · exact recorded_recompute hs ((State.noSlots_examine _ _).trans (State.noSlots_setSlot _ _ _)) _

theorem recorded_doRenew (hs : Recorded s) (x : Issuer) (hd : Handle) (l : Half) :
    Recorded (doRenew x hd l s).1 := by
  unfold doRenew
  split
  · exact hs
  refine mem_onLive hs (fun i b _ => ?_)
  split
  · exact hs
  · exact recorded_recompute hs (State.noSlots_setSlot _ _ _) _

theorem recorded_doRetire (hs : Recorded s) (x : Issuer) (hd : Handle) : Recorded (doRetire x hd s).1 := by
  refine mem_onLive hs (fun i b _ => ?_)
  split
  · exact hs
  split
  · exact hs
  · exact recorded_tableRetire hs _ _ _

theorem recorded_doWithdraw (hs : Recorded s) (x : Issuer) (k : Byte) : Recorded (doWithdraw x k s).1 := by
  unfold doWithdraw
  split
  · exact hs
  · exact recorded_tableRetire hs _ _ _

/-! ### The requests at the doorways (R98, R141) -/

theorem recorded_doClearObstruction (hs : Recorded s) (sc : DoorSet) : Recorded (doClearObstruction sc s).1 := by
  unfold doClearObstruction
  split
  · exact hs
  dsimp only
  refine mem_foldl (P := {s | Recorded s}) (fun u d hu => ite_mem _ ?_ hu) doors hs
  exact recorded_of_blank hu (blank_atChannel d u _ (blank_clearDoor d u)) (hu.tallied d).clearDoor.atChannel

theorem recorded_clearFaultDoor (d : Door) {x : State × DoorSet × DoorSet} (hx : Recorded x.1) :
    Recorded (clearFaultDoor d x).1 := by
  unfold clearFaultDoor
  split
  · exact recorded_of_blank hx (blank_atChannel d x.1 _ (blank_clearFaultAt d x.1))
      (hx.tallied d).clearFaultAt.atChannel
  · exact hx
  · exact hx

theorem recorded_doClearFault (hs : Recorded s) (sc : DoorSet) : Recorded (doClearFault sc s).1 := by
  have hfold : ∀ (l : List Door) (x : State × DoorSet × DoorSet), Recorded x.1 →
      Recorded (l.foldl (fun x d => if has sc d then clearFaultDoor d x else x) x).1 := by
    intro l
    induction l with
    | nil => exact fun _ hx => hx
    | cons d l ih =>
      intro x hx
      refine ih _ ?_
      dsimp only
      split
      · exact recorded_clearFaultDoor d hx
      · exact hx
  unfold doClearFault
  split
  · exact hs
  · exact hfold doors _ hs

/-! ### The other requests -/

theorem recorded_doPanel (hs : Recorded s) (side action : Byte) : Recorded (doPanel side action s).1 := by
  have hpanel : ∀ sd on, Recorded (panelTo sd on s) := fun sd on => by
    unfold panelTo
    split <;> cases sd <;> exact recorded_of_same hs rfl rfl rfl
  unfold doPanel
  split
  · exact recorded_of_same (hpanel _ _) rfl rfl rfl
  · exact hs

theorem recorded_doSurvey (hs : Recorded s) (a x k : Byte) : Recorded (doSurvey a x k s).1 := by
  unfold doSurvey
  split
  · split
    · exact hs
    · exact recorded_of_same hs rfl rfl rfl
  · exact hs

theorem recorded_doDoorwayReport (hs : Recorded s) (sc : DoorSet) : Recorded (doDoorwayReport sc s).1 := by
  unfold doDoorwayReport
  split
  · exact hs
  · exact recorded_of_same hs rfl rfl rfl

theorem recorded_doCollectNotices (hs : Recorded s) (p : Port) : Recorded (doCollectNotices p s).1 := by
  obtain ⟨sl, hsl⟩ := clearMarks_eq (markedSlots s p) s
  have hclear : Recorded (s.clearMarks (markedSlots s p)) := by
    rw [hsl]
    exact recorded_of_same hs rfl rfl rfl
  exact mem_modPort recorded_closed hclear p
    (fun x => { x with kinds := 0#8, standing := 0#8, fault := 0#8, egress := 0#8 })

/-! ### The requests in CONFIGURE (R75, R159) -/

theorem tallied_start (hg : s.guard d = .start) : Tallied d s := by
  unfold Tallied Sane
  rw [hg]
  exact ⟨⟨Nat.zero_le _, by decide, rfl, by decide⟩, fun _ => ⟨rfl, rfl⟩⟩

theorem Calm.recorded (h : Calm s) : Recorded s := ⟨fun d => tallied_start (h.guard d)⟩

theorem Calm.recorded_doConfigWrite (h : Calm s) (offset : Half) (data : List Byte) :
    Recorded (doConfigWrite offset data s).1 := by
  unfold doConfigWrite
  split
  · split
    · exact h.recorded
    · exact (h.writeConfig _ _).recorded
  · exact h.recorded

theorem Calm.recorded_doStartRun (h : Calm s) : Recorded (doStartRun s).1 := by
  unfold doStartRun
  split
  · exact h.recorded
  · exact recorded_of_same h.recorded rfl rfl rfl

end Records

/-! ### Execution (R145, R147, R168 to R170) -/

/-- The states in which a message is executed: CONFIGURE is quiet and the records are sound. -/
structure Kempt (s : State) : Prop where
  quiet : ConfigureQuiet s
  recorded : Recorded s

theorem kempt_closed : LinksClosed {s | Kempt s} where
  still s t hs ht := ⟨quiet_closed.still s t hs.1 ht, recorded_closed.still s t hs.2 ht⟩
  send s e hs he := ⟨quiet_closed.send s e hs.1 he, recorded_closed.send s e hs.2 he⟩

section Execution
variable {s : State}

/-- R145: of the requests, those that write the configuration or the mode are admitted in CONFIGURE alone. -/
theorem calm_of_allowed {k : RequestKind} (hq : ConfigureQuiet s) (hk : k.allowedIn s.mode = true)
    (hrun : k.allowedIn .run = false) : Calm s := by
  rcases (configureQuiet_iff s).mp hq with hm | hc
  · rw [hm, hrun] at hk
    cases hk
  · exact hc

/-- R147: a request that the mode admits. -/
theorem recorded_perform (hs : Kempt s) {k : RequestKind} (hk : k.allowedIn s.mode = true) (p : Port) (x : Issuer)
    (b : List Byte) : Recorded (perform k p x b s).1 := by
  obtain ⟨hq, hs⟩ := hs
  cases k with
  | place => exact recorded_doPlace hs x _
  | amend => exact recorded_doAmend hs x _
  | renew => exact recorded_doRenew hs x _ _
  | retire => exact recorded_doRetire hs x _
  | withdraw => exact recorded_doWithdraw hs x _
  | survey => exact recorded_doSurvey hs _ _ _
  | doorwayReport => exact recorded_doDoorwayReport hs _
  | clearObstruction => exact recorded_doClearObstruction hs _
  | clearFault => exact recorded_doClearFault hs _
  | panel => exact recorded_doPanel hs _ _
  | collectNotices => exact recorded_doCollectNotices hs p
  | noticeMask => exact mem_modPort recorded_closed hs p (fun x => { x with mask := paramAt b 0 })
  | lookup | carReport | configStore => exact recorded_of_same hs rfl rfl rfl
  | configRead => exact mem_doConfigRead (P := {s | Recorded s}) hs _ _
  | configWrite => exact (calm_of_allowed hq hk rfl).recorded_doConfigWrite _ _
  | startRun => exact (calm_of_allowed hq hk rfl).recorded_doStartRun
  | presence | restart => exact hs

theorem recorded_checked (hs : Kempt s) (p : Port) (kind : Byte) (b : List Byte) :
    Recorded (checked p kind b s).1 := by
  unfold checked
  split
  · exact hs.2
  split
  · exact hs.2
  split
  · exact hs.2
  split
  · exact hs.2
  · rename_i hmode _
    exact recorded_perform hs (by simpa using hmode) p _ b

/-- R170: a loss taken before the request of its port. -/
theorem kempt_settleLoss (hs : Kempt s) (p : Port) : Kempt (settleLoss p s) := by
  have hdrop : Kempt ({ s with sent := s.sent.filter (fun e => e != .linkLost p) }) :=
    mem_sent kempt_closed hs List.filter_sublist.subset
  refine ite_mem _ ⟨?_, recorded_tableRetire hdrop.2 _ _ _⟩ hs
  rcases (configureQuiet_iff _).mp hdrop.1 with hm | hc
  · exact (configureQuiet_iff _).mpr (.inl (mem_tableRetire mode_closed hm _ _ _))
  · rw [takeLinkLost, hc.tableRetire]
    exact hc.quiet

/-- R168, R169: a message executed. -/
theorem kempt_execute (s : State) (p : Port) (m : Message) (hs : Kempt s) : Kempt (execute p m s) :=
  ⟨quiet_execute s p m hs.1, ite_mem _ (mem_formAnswer recorded_closed hs.2 ..)
    (mem_reply recorded_closed p _ _ (recorded_checked (kempt_settleLoss hs p) p _ _))⟩

end Execution

end Sys2Proof.Machine
end

section
/-! PROOF. Every step keeps the obstruction records (R86, R91, R96, R97). -/

namespace Sys2Proof.Machine

open Claims Safety

section Dispatch
variable {s t : State} {d : Door}

/-! ### A start, and the held part (R180, R181) -/

theorem recorded_startPart (c : ResetCause) (s : State) : Recorded (startPart c s) := by
  unfold startPart
  generalize loadPart c (cutStore s) = u
  have h : Recorded (startBlocks u) := ⟨fun d => tallied_start (by simp [State.guard, startBlocks])⟩
  unfold autoRun
  split
  · exact recorded_of_same h rfl rfl rfl
  · exact h

theorem recorded_holdPart (hs : Recorded s) : Recorded (holdPart s) := ⟨fun d => by
  have hchan : (holdPart s).chan d = (s.chan d).held := by
    unfold holdPart cutStart cutStore
    split <;> split <;> simp [State.chan]
  have hrest : (holdPart s).guards = s.guards ∧ (holdPart s).cfg = s.cfg := by
    unfold holdPart cutStart cutStore
    split <;> split <;> exact ⟨rfl, rfl⟩
  obtain ⟨hguards, hcfg⟩ := hrest
  exact (hs.tallied d).of_same (by rw [State.guard, hguards, State.guard]) hcfg (fun k => by rwa [hchan] at k)⟩

/-! ### Events at one doorway -/

/-- An event at a channel or guard section writes its own doorway alone, and leaves its record sound. -/
structure RecordStep (d : Door) (s t : State) : Prop where
  blank : t.blank d = s.blank d
  tallied : Tallied d s → Tallied d t

theorem RecordStep.refl (d : Door) (s : State) : RecordStep d s s := ⟨rfl, id⟩

theorem RecordStep.ite {u v : State} (b : Bool) (hu : RecordStep d s u) (hv : RecordStep d s v) :
    RecordStep d s (if b = true then u else v) := by
  cases b
  · exact hv
  · exact hu

theorem RecordStep.recorded {f : State → State} (h : RecordStep d s (f s)) (hs : Recorded s) :
    Recorded (atChannel d f s) :=
  recorded_of_blank hs (blank_atChannel d s f h.blank) (h.tallied (hs.tallied d)).atChannel

theorem RecordStep.inRun {f : State → State} (h : RecordStep d s (f s)) (hs : Recorded s) :
    Recorded (inRun d f s) := by
  unfold Machine.inRun
  split
  · exact h.recorded hs
  · exact hs

/-- A timer of a channel or guard section. -/
theorem recorded_act_inRun {f : State → State} (hs : Recorded s) (hf : RecordStep d s (f s))
    (ht : act s (inRun d f) = .next t) : Recorded t := mem_act recorded_closed (fun _ => hf.inRun hs) hs ht

/-- An event of the lines at a channel or guard section. -/
theorem recorded_actSent_inRun {c : Instr} {f : State → State} (hs : Recorded s) (hf : ∀ u, RecordStep d u (f u))
    (ht : actSent s c (inRun d f) = .next t) : Recorded t :=
  mem_actSent recorded_closed (fun u _ hu => (hf u).inRun hu) hs ht

theorem recorded_execEncoderStep {dir : Dir} (hs : Recorded s) (ht : execEncoderStep d dir s = .next t) :
    Recorded t := by
  have h1 : Recorded (s.modChan d (·.turnEncoder dir)) :=
    recorded_modChan hs (fun c => by unfold Channel.turnEncoder; split <;> rfl)
  cases ht
  have h2 := recorded_of_blank h1 (blank_takeStep d _ dir) ((h1.tallied d).takeStep dir)
  exact ite_mem _ (mem_settle recorded_closed h2) h1

theorem recorded_execIllegalTransition (hs : Recorded s) (ht : execIllegalTransition d s = .next t) :
    Recorded t := by
  have h1 : Recorded (s.modChan d Channel.crossEncoder) := recorded_modChan hs (fun _ => rfl)
  have h2 : RecordStep d (s.modChan d Channel.crossEncoder)
      (detectCause d .encoder (s.modChan d Channel.crossEncoder)) := ⟨blank_detectCause d _ _, (·.detectCause _)⟩
  cases ht
  exact ite_mem _ (mem_settle recorded_closed (h2.inRun h1)) h1

/-! ### Every command -/

/-- A command leaves the obstruction records sound. -/
theorem recorded_exec (h : Kempt s) {c : Instr} (ht : exec c s = .next t) : Recorded t := by
  have hs := h.2
  cases c
  case presence | place | amend | renew | retire | withdraw | lookup | survey | doorwayReport | carReport |
      clearObstruction | clearFault | panel | collectNotices | noticeMask | configRead | configWrite | configStore |
      startRun | restart => exact (mem_arrive kempt_closed kempt_execute h ht).2
  case storeCompletion => exact mem_act recorded_closed (fun hs => mem_takeStoreCompletion recorded_closed hs) hs ht
  case messageCompletion p ch =>
    exact (mem_act kempt_closed (fun hs => mem_completeMessage kempt_closed kempt_execute hs p ch) h ht).2
  case messageAbandoned p =>
    exact mem_act recorded_closed (f := fun s => s.setRx p none) (fun hs => mem_setRx recorded_closed hs p none) hs ht
  case answerSent p =>
    have ht : execAnswerSent p s = .next t := ht
    unfold execAnswerSent at ht
    split at ht
    · cases ht
      exact recorded_startPart _ _
    · exact (mem_act kempt_closed (fun hs => mem_takeAnswerSent kempt_closed kempt_execute hs p) h ht).2
  case supervisionIntervalExpiry p =>
    exact mem_act recorded_closed (fun hs => mem_supIntervalEnd recorded_closed hs p) hs ht
  case supervisionGraceExpiry p => exact mem_act recorded_closed (fun hs => mem_supGraceEnd recorded_closed hs p) hs ht
  case characterReceived p ch =>
    exact (mem_act kempt_closed
      (fun hs => mem_assemble kempt_closed kempt_execute (mem_modPort kempt_closed hs p _) p ch) h ht).2
  case powerOn =>
    have ht : execPowerOn s = .next t := ht
    unfold execPowerOn at ht
    cases ht
    split
    · exact recorded_holdPart (recorded_of_same hs rfl rfl rfl)
    · exact recorded_startPart _ _
  case resetLineReleased =>
    have ht : execResetLineReleased s = .next t := ht
    unfold execResetLineReleased at ht
    cases ht
    split
    · exact recorded_startPart _ _
    · exact recorded_of_same hs rfl rfl rfl
  case resetLineAsserted | supplyLoss =>
    cases ht
    exact recorded_holdPart (recorded_of_same hs rfl rfl rfl)
  case channelRunEntry d =>
    exact mem_actSent recorded_closed
      (fun u _ hu => RecordStep.recorded ⟨blank_takeRunEntry d u, (·.takeRunEntry)⟩ hu) hs ht
  case lineInputRunEntry =>
    exact mem_actSent recorded_closed (fun u _ hu => mem_takeLineRunEntry recorded_closed hu) hs ht
  case lineAcceptance l lv => exact mem_execLineAcceptance recorded_closed hs ht
  case lineSample c levels => exact mem_execLineSample recorded_closed hs ht
  case internalPlacement q => exact mem_actSent recorded_closed (fun u _ hu => recorded_takePlacement hu q) hs ht
  case raise i => exact mem_actSent recorded_closed (fun u _ hu => recorded_takeRaise hu i) hs ht
  case lineDroppedRetirement | panelOffRetirement | linkLost | provenEvent =>
    exact mem_actSent recorded_closed (fun u _ hu => recorded_tableRetire hu _ _ _) hs ht
  case expiry i => exact mem_act recorded_closed (fun hs => recorded_takeExpiry hs i) hs ht
  case countdownStart d =>
    exact mem_actSent recorded_closed (f := fun s => s.startCountdowns d)
      (fun u _ hu => recorded_of_same hu rfl rfl rfl) hs ht
  case channelEntryAtTable d e =>
    exact mem_actSent recorded_closed (fun u _ hu => recorded_takeChannelEntry hu d e) hs ht
  case encoderStep d dir => exact recorded_execEncoderStep hs ht
  case illegalTransition d => exact recorded_execIllegalTransition hs ht
  case clsAcceptedAtChannel d lv =>
    exact recorded_actSent_inRun hs
      (fun u => .ite _ ⟨blank_clsMade d u, (·.clsMade)⟩ ⟨blank_clsBroken d u, (·.clsBroken)⟩) ht
  case lksAcceptedAtChannel d lv =>
    exact recorded_actSent_inRun hs
      (fun u => .ite _ ⟨blank_lksMade d u, (·.lksMade)⟩ ⟨blank_lksBroken d u, (·.lksBroken)⟩) ht
  case bfltAcceptedAtChannel d lv =>
    exact recorded_actSent_inRun hs
      (fun u => .ite _ ⟨blank_detectCause d u .bridge, (·.detectCause .bridge)⟩ (.refl d u)) ht
  case edgeAcceptedAtGuard d lv =>
    exact recorded_actSent_inRun hs (fun u => .ite _ ⟨blank_edgeAsserted d u, (·.edgeAsserted)⟩ (.refl d u)) ht
  case frcAcceptedAtGuard d lv =>
    exact recorded_actSent_inRun hs (fun u => .ite _ ⟨blank_forceAsserted d u, (·.forceAsserted)⟩ (.refl d u)) ht
  case stallIntervalExpiry d => exact recorded_act_inRun hs ⟨blank_stallIntervalEnd d s, (·.stallIntervalEnd)⟩ ht
  case stallGraceExpiry d => exact recorded_act_inRun hs ⟨blank_stallGraceEnd d s, (·.stallGraceEnd)⟩ ht
  case warningIntervalExpiry d => exact recorded_act_inRun hs ⟨blank_warningEnd d s, (·.warningEnd)⟩ ht
  case reversalPauseExpiry d => exact recorded_act_inRun hs ⟨blank_pauseEnd d s, (·.pauseEnd)⟩ ht
  case travelTimerExpiry d => exact recorded_act_inRun hs ⟨blank_travelEnd d s, (·.travelEnd)⟩ ht
  case unlockWaitExpiry d => exact recorded_act_inRun hs ⟨blank_unlockWaitEnd d s, (·.unlockWaitEnd)⟩ ht
  case lockWaitExpiry d => exact recorded_act_inRun hs ⟨blank_lockWaitEnd d s, (·.lockWaitEnd)⟩ ht
  case retryWaitExpiry d => exact recorded_act_inRun hs ⟨blank_retryWaitEnd d s, (·.retryWaitEnd)⟩ ht
  case plausibilityTimerExpiry d => exact recorded_act_inRun hs ⟨blank_plausEnd d s, (·.plausEnd)⟩ ht
  case flashPhaseExpiry d =>
    exact mem_act recorded_closed (f := fun s => s.modChan d (fun c => { c with lamp := c.lamp.toggle }))
      (fun hs => recorded_modChan hs (fun _ => rfl)) hs ht
  case provenFlagUpdate d sw lv =>
    exact mem_actSent recorded_closed (fun u _ hu => mem_takeCopies recorded_closed hu d _) hs ht
  case channelStateAtClu d st =>
    exact mem_actSent recorded_closed (fun u _ hu => mem_takeCopies recorded_closed hu d _) hs ht
  case zspdAtClu lv => exact mem_actSent recorded_closed (fun u _ hu => mem_takeZspd recorded_closed hu lv) hs ht
  case provingTimerExpiry => exact mem_act recorded_closed (fun hs => mem_provingEnd recorded_closed hs) hs ht

end Dispatch

theorem kempt_iff (s : State) : Kempt s ↔ ObstructionOk s :=
  ⟨fun h => ⟨h.quiet, fun d => (tallied_iff d s).mp (h.recorded.tallied d)⟩,
    fun h => ⟨h.1, ⟨fun d => (tallied_iff d s).mpr (h.2 d)⟩⟩⟩

/-- Settles O59, by the records that are sound: every command leaves CONFIGURE quiet, and every obstruction record sound
and, in LOCKED, clear. -/
theorem stepsKeepTheObstructionRecords : Obligations.StepsKeepTheObstructionRecords := by
  refine kept_of_exec (fun s l h => h.pending l) (fun c s t hs ht => ?_)
  have hk : Kempt s := (kempt_iff s).mpr hs
  exact (kempt_iff t).mp ⟨kept_exec stepsKeepConfigureQuiet (hs.1.pending _) ht, recorded_exec hk ht⟩

end Sys2Proof.Machine
end

section
/-! SUPPORT. R61 to R63, R86 to R96: what the entries of the obstruction chapter say of a doorway, from a state that
differs from the one spoken of in the doorway's state, outputs and timers alone. -/

namespace Sys2Proof.Machine

open Claims Safety

/-! ### The outputs that follow an event (R53, R173) -/

section Settled
variable {d : Door} {s t : State} {es : List Instr}

theorem sameLink_settle {p : Port} (h : SameLink p s t) : SameLink p s t.settle := by
  unfold SameLink at h ⊢
  rw [State.settle_port]
  exact h

theorem sameNotices_settle {p : Port} (h : SameNotices p s t) : SameNotices p s t.settle := by
  unfold SameNotices at h ⊢
  rw [State.settle_port]
  exact h

theorem onlyDoor_settle (h : OnlyDoor d s t) : OnlyDoor d s t.settle := by
  obtain ⟨hcontrol, hslots, hlines, hclu, hfree, hdoors, hT, hS⟩ := h
  exact ⟨sameControl_settle hcontrol, hslots, hlines, hclu, hfree, hdoors, sameLink_settle hT, sameLink_settle hS⟩

theorem noNotice_settle (h : NoNotice s t) : NoNotice s t.settle := ⟨sameNotices_settle h.1, sameNotices_settle h.2⟩

theorem plain_settle (h : Plain d es s t) : Plain d es s t.settle :=
  ⟨onlyDoor_settle h.1, noNotice_settle h.2.1, h.2.2.1, h.2.2.2⟩

theorem doorNotice_settle (h : DoorNotice 2 PortState.standing d t) :
    DoorNotice 2 PortState.standing d t.settle := fun p => by
  rw [State.settle_port]
  exact h p

theorem opensByPosition_settle {tg : Nat} (h : OpensByPosition d tg s t) : OpensByPosition d tg s t.settle := by
  obtain ⟨hleaf, h⟩ := h
  refine ⟨hleaf, ?_⟩
  split
  · rename_i hle
    rw [if_pos hle] at h
    exact ⟨h.1, plain_settle h.2⟩
  · rename_i hle
    rw [if_neg hle] at h
    exact ⟨h.1, plain_settle h.2⟩

theorem reliefEnds_settle (h : ReliefEnds d s t) : ReliefEnds d s t.settle := by
  unfold ReliefEnds at h ⊢
  split
  · rename_i hmax
    rw [if_pos hmax] at h
    obtain ⟨h1, h2, h3, h4, h5, h6, honly, h8, hnotice, h10⟩ := h
    exact ⟨h1, h2, h3, h4, h5, h6, onlyDoor_settle honly, h8, doorNotice_settle hnotice, h10⟩
  · rename_i hmax
    rw [if_neg hmax] at h
    exact ⟨fun hk => ⟨(h.1 hk).1, (h.1 hk).2.1, plain_settle (h.1 hk).2.2⟩,
      fun ho tg htg => opensByPosition_settle (h.2 ho tg htg)⟩

theorem blocks_settle_of (h : Claims.Blocks d s t) : Claims.Blocks d s t.settle := by
  obtain ⟨h1, h2, h3, h4, h5, h6, honly, h8, h⟩ := h
  refine ⟨h1, h2, h3, h4, h5, h6, onlyDoor_settle honly, h8, ?_⟩
  split
  · rename_i hn
    rw [if_pos hn] at h
    exact ⟨h.1, noNotice_settle h.2.1, h.2.2⟩
  · rename_i hn
    rw [if_neg hn] at h
    exact ⟨h.1, doorNotice_settle h.2.1, h.2.2⟩

theorem detects_settle {cause : ObsCause} (h : Detects d cause s t) : Detects d cause s t.settle := by
  unfold Detects at h ⊢
  split
  · rename_i hroom
    rw [if_pos hroom] at h
    exact ⟨h.1, plain_settle h.2⟩
  · rename_i hroom
    rw [if_neg hroom] at h
    exact fun htg => reliefEnds_settle (h htg)

end Settled

/-! ### An event told from another state -/

/-- R72: an event at a channel is told against the state that the channel was in, and reads no more of what was
before. -/
theorem atChannel_from {d : Door} {f : State → State} {s u : State} (h : (u.chan d).state = (s.chan d).state) :
    atChannel d f s = atChannel d (fun _ => f s) u := by
  unfold atChannel
  rw [h]

/-- Doorway d alone has changed from u to w, in nothing but the state, the outputs and the timers of its channel and the
supervisions of its guard section. -/
structure Follows (d : Door) (u w : State) : Prop where
  enters : Enters d [] (w.chan d) (w.guard d) (u.demand d) u w
  leaf : SameLeaf (u.chan d) (w.chan d)
  reopen : SameReopen (u.guard d) (w.guard d)
  retry : SameRetry (u.guard d) (w.guard d)

section Follows
variable {d : Door} {u w : State}

theorem Follows.refl (d : Door) (u : State) : Follows d u u :=
  ⟨.refl d u, ⟨rfl, rfl, rfl, rfl, rfl, rfl, rfl⟩, ⟨rfl, rfl, rfl, rfl⟩, ⟨rfl, rfl⟩⟩

/-- A rule for d whose channel and guard section keep what is to be kept. -/
theorem Enters.follows {c : Channel} {g : Guard} (h : Enters d [] c g (u.demand d) u w) (hl : SameLeaf (u.chan d) c)
    (hr : SameReopen (u.guard d) g) (ht : SameRetry (u.guard d) g) : Follows d u w := by
  obtain ⟨hb, rfl, rfl, hd, hp, hs⟩ := h
  exact ⟨⟨hb, rfl, rfl, hd, hp, hs⟩, hl, hr, ht⟩

variable (k : Follows d u w)
include k

theorem Follows.cfg : w.cfg = u.cfg := k.enters.cfg
theorem Follows.demand : w.demand d = u.demand d := k.enters.demand
theorem Follows.asserted (l : Line) : w.asserted l = u.asserted l := k.enters.asserted l

theorem Follows.warnInterval : w.warnInterval d = u.warnInterval d := by
  obtain ⟨hcount, -⟩ := k.reopen
  rw [State.warnInterval, hcount, k.cfg, State.warnInterval]

variable {f : State → State} (hb : u.asserted (.bflt d) = false)
include hb

theorem Follows.bflt : w.asserted (.bflt d) = false := (k.asserted _).trans hb

/-! ### The entries of a relief's end (R90) -/

theorem Follows.warns (hf : f u = enterWarning d w) : Warns d u (atChannel d f u) ∧
    SameRetry (u.guard d) ((atChannel d f u).guard d) ∧ Plain d [] u (atChannel d f u) := by
  have h := k.enters.trans (enters_enterWarning (k.bflt hb))
  rw [k.warnInterval, k.demand, ← hf] at h
  unfold Warns
  rw [h.atChannel.chan, h.atChannel.guard]
  exact ⟨⟨⟨rfl, rfl, rfl, rfl⟩, ⟨rfl, rfl, rfl, rfl, rfl, rfl⟩, k.leaf, ⟨rfl, rfl⟩, k.reopen⟩, k.retry, h.plain⟩

theorem Follows.arrives (hf : f u = enterOpen d w) : Arrives d u (atChannel d f u) ∧
    SameLeaf (u.chan d) ((atChannel d f u).chan d) ∧ Plain d [.countdownStart d] u (atChannel d f u) := by
  have h := k.enters.trans (enters_enterOpen (k.bflt hb))
  rw [k.demand, ← hf] at h
  unfold Arrives
  rw [h.atChannel.chan, h.atChannel.guard]
  refine ⟨⟨⟨rfl, rfl, rfl, rfl⟩, ⟨rfl, rfl, rfl, rfl, rfl, rfl⟩, ?_⟩, k.leaf, h.plain⟩
  by_cases hk : governedByGrd d (u.demand d) = true
  · rw [if_pos (guardGoverns_iff.mpr hk), hk]
    exact ⟨⟨rfl, rfl⟩, ⟨rfl, rfl⟩, k.reopen⟩
  · rw [if_neg (fun hg => hk (guardGoverns_iff.mp hg)), eq_false_of_ne_true hk]
    exact ⟨⟨rfl, rfl⟩, ⟨rfl, rfl⟩, rfl, rfl, rfl, rfl⟩

theorem Follows.opens (hfrc : u.asserted (.frc d) = false) {slide : Bool} (hf : f u = beginOpening d slide w) :
    Opens d slide u (atChannel d f u) ∧ SameLeaf (u.chan d) ((atChannel d f u).chan d) ∧
    Plain d [] u (atChannel d f u) := by
  have h := k.enters.trans (enters_beginOpening (k.bflt hb) ((k.asserted _).trans hfrc) slide)
  rw [k.demand, k.cfg, ← hf] at h
  obtain ⟨hpos, _, hband, _⟩ := k.leaf
  unfold Opens
  rw [h.atChannel.chan, h.atChannel.guard, ← hband, ← hpos]
  exact ⟨⟨⟨rfl, rfl, rfl, rfl⟩, rfl, ⟨rfl, rfl, rfl, rfl, rfl, rfl⟩, ⟨rfl, rfl, rfl⟩, k.reopen, k.retry⟩, k.leaf,
    h.plain⟩

/-- R64, R90: the decision by position. A force held asserted is of no matter to a leaf that arrives. -/
theorem Follows.opensByPosition {tg : Nat} (htg : (u.demand d).target = some tg)
    (hfrc : u.asserted (.frc d) = false ∨ tg ≤ (u.chan d).position.val + u.cfg.endWindow d)
    (hf : f u = openByPosition d w) : OpensByPosition d tg u (atChannel d f u) := by
  obtain ⟨hpos, -⟩ := k.leaf
  simp only [openByPosition, k.demand, htg, k.cfg, hpos] at hf
  unfold OpensByPosition
  split at hf
  · rename_i hle
    rw [if_pos hle]
    obtain ⟨h1, h2, h3⟩ := k.arrives hb hf
    exact ⟨h2, h1, h3⟩
  · rename_i hle
    rw [if_neg hle]
    obtain ⟨h1, h2, h3⟩ := k.opens hb (hfrc.resolve_right hle) hf
    exact ⟨h2, h1, h3⟩

end Follows

/-! ### The entries with a STANDING notice (R92, R96) -/

theorem doorNotice_standing (d : Door) (s : State) : DoorNotice 2 PortState.standing d (s.raiseDoor .standing d) := by
  intro p
  have hs : ((s.port p).raiseDoor .standing d).standing = (s.port p).standing ||| single d := rfl
  rw [State.port_raiseDoor, PortState.kinds_raiseDoor, hs]
  simp [has, getLsbD_single, NoticeKind.bit]

theorem doorNotice_send {d : Door} {s : State} (c : Instr) (h : DoorNotice 2 PortState.standing d s) :
    DoorNotice 2 PortState.standing d (s.send c) := fun p =>
  (by cases p <;> rfl : (s.send c).port p = s.port p) ▸ h p

theorem doorNotice_dropGrd {d : Door} {s : State} (h : DoorNotice 2 PortState.standing d s) :
    DoorNotice 2 PortState.standing d (s.dropGrd d) := fun p =>
  (by cases p <;> rfl : (s.dropGrd d).port p = s.port p) ▸ h p

theorem doorNotice_atChannel {d : Door} {f : State → State} {s : State}
    (h : DoorNotice 2 PortState.standing d (f s)) : DoorNotice 2 PortState.standing d (atChannel d f s) := fun p => by
  rw [port_atChannel]
  exact h p

section Standing
variable {d : Door} {u w : State} {f : State → State} (k : Follows d u w)
include k

/-- R92: the entry into STANDING, which drops the doorway's own GRD placement (R87). -/
theorem Follows.stands (hf : f u = enterStanding d w) (hne : (u.chan d).state ≠ .standing) :
    Outputs ((atChannel d f u).chan d) .standing .free false (.flashing true) ∧ Untimed ((atChannel d f u).chan d) ∧
    SameLeaf (u.chan d) ((atChannel d f u).chan d) ∧ Resting ((atChannel d f u).guard d) ∧
    SameReopen (u.guard d) ((atChannel d f u).guard d) ∧ SameRetry (u.guard d) ((atChannel d f u).guard d) ∧
    OnlyDoor d u (atChannel d f u) ∧ (atChannel d f u).demand d = u.demand d ∧
    DoorNotice 2 PortState.standing d (atChannel d f u) ∧
    (atChannel d f u).sent = u.sent.filter (fun c => !isGrdPlacement d c) ++
      [.channelEntryAtTable d .standing, .channelStateAtClu d .standing] := by
  have h := k.enters.enterState .standing .free false (.flashing true)
  have hblank : (f u).blank d = u.blank d := by
    rw [hf, blank_enterStanding]
    exact k.enters.blank
  have hchan : (f u).chan d = (w.chan d).rest .standing .free false (.flashing true) := by
    rw [hf]
    exact h.chan
  have hguard : (f u).guard d = (w.guard d).idle := by
    rw [hf]
    exact h.guard
  have hsent : (f u).sent = u.sent.filter (fun c => !isGrdPlacement d c) ++ [.channelEntryAtTable d .standing] := by
    have hw : w.sent = u.sent := k.enters.sent.trans (List.append_nil _)
    rw [hf, ← hw]
    rfl
  have hnotice : DoorNotice 2 PortState.standing d (f u) := by
    rw [hf]
    exact doorNotice_send _ (doorNotice_dropGrd (doorNotice_standing d _))
  rw [chan_atChannel, guard_atChannel, hchan, hguard, sent_atChannel, hchan, hsent]
  refine ⟨⟨rfl, rfl, rfl, rfl⟩, ⟨rfl, rfl, rfl, rfl, rfl, rfl⟩, k.leaf, ⟨rfl, rfl⟩, k.reopen, k.retry,
    onlyDoor_of_blank (blank_atChannel d u f hblank), ?_, doorNotice_atChannel hnotice, ?_⟩
  · rw [demand_atChannel, hf]
    exact h.demand
  · rw [if_neg (fun he => hne he.symm), List.append_assoc]
    rfl

/-- R90: the end of a relief. -/
theorem Follows.reliefEnds (hb : u.asserted (.bflt d) = false) (hne : (u.chan d).state ≠ .standing)
    (hfrc : u.asserted (.frc d) = false ∨
      ∀ tg ∈ (u.demand d).target, tg ≤ (u.chan d).position.val + u.cfg.endWindow d)
    (hf : f u = endRelief d w) : ReliefEnds d u (atChannel d f u) := by
  obtain ⟨hcount, -⟩ := k.reopen
  unfold endRelief at hf
  rw [k.cfg, hcount, k.demand] at hf
  unfold ReliefEnds
  split at hf
  · rename_i hmax
    rw [if_pos hmax]
    exact k.stands hf hne
  · rename_i hmax
    rw [if_neg hmax]
    refine ⟨fun hk => ?_, fun ho tg htg => ?_⟩
    · refine k.warns hb ?_
      rcases hk with hk | hk <;> rw [hk] at hf <;> exact hf
    · rw [ho] at hf
      exact k.opensByPosition hb htg (hfrc.imp_right (fun h => h tg htg)) hf

end Standing

/-! ### An opening obstruction (R94, R96) -/

/-- R96: the open retry count after an obstruction. -/
def Guard.retries (g : Guard) : Nat := min 3 (g.openRetry.val + 1)

/-- R94: a guard section at an opening obstruction. -/
def Guard.retried (g : Guard) (exhausted : Bool) : Guard :=
  { g.idle with openRetry := Fin.ofNat 4 g.retries, openExhausted := exhausted }

theorem openRetry_retried (g : Guard) (b : Bool) : (g.retried b).openRetry.val = g.retries := by
  have hle : g.retries ≤ 3 := Nat.min_le_left _ _
  show g.retries % 4 = g.retries
  omega

/-- R132: no bridge fault. -/
theorem bridgeCheck_of_clear {d : Door} {s : State} (h : s.asserted (.bflt d) = false) : bridgeCheck d s = s := by
  rw [bridgeCheck, h]
  rfl

section Blocked
variable {d : Door} {u w : State} {f : State → State} (k : Follows d u w)
include k

theorem Follows.retries : (w.guard d).retries = (u.guard d).retries := by
  obtain ⟨hretry, -⟩ := k.retry
  rw [Guard.retries, hretry, Guard.retries]

/-- R94: a retry waits. -/
theorem enters_openingObstruction (hb : u.asserted (.bflt d) = false) (hn : (u.guard d).retries < 3) :
    Enters d [] { (w.chan d).rest .openBlocked .brake false .off with retryWait := some u.cfg.openRetryTime }
      ((w.guard d).retried (w.guard d).openExhausted) (u.demand d) u (openingObstruction d w) := by
  have h := (((k.enters.enterState .openBlocked .brake false .off).modGuard
    (fun g => { g with openRetry := Fin.ofNat 4 (w.guard d).retries })).modChan
    (fun c => { c with retryWait := some u.cfg.openRetryTime })).bridgeCheck hb
  have hlt : min 3 ((w.guard d).openRetry.val + 1) < 3 := k.retries.trans_lt hn
  unfold openingObstruction
  dsimp only
  rw [if_pos hlt, k.cfg]
  exact h

/-- R96: the retries are exhausted, and the doorway stands open. -/
theorem exhausts_openingObstruction (hb : u.asserted (.bflt d) = false) (hn : ¬ (u.guard d).retries < 3) :
    ∃ v, openingObstruction d w = (v.raiseDoor .standing d).send (.countdownStart d) ∧
      Enters d [] ((w.chan d).rest .openBlocked .brake false .off) ((w.guard d).retried true) (u.demand d) u v := by
  have h := ((k.enters.enterState .openBlocked .brake false .off).modGuard
    (fun g => { g with openRetry := Fin.ofNat 4 (w.guard d).retries })).modGuard
    (fun g => { g with openExhausted := true })
  have hnot : ¬ min 3 ((w.guard d).openRetry.val + 1) < 3 := fun hlt => hn (k.retries.symm.trans_lt hlt)
  refine ⟨_, ?_, h⟩
  unfold openingObstruction
  dsimp only
  rw [if_neg hnot]
  refine bridgeCheck_of_clear ?_
  rw [State.asserted_of_bare (State.bare_of_blank (State.blank_send d _ _ (sentFrom_countdownStart d))),
    State.asserted_of_bare (State.bare_of_blank (State.blank_raiseDoor d _ _ d))]
  exact (h.asserted _).trans hb

theorem Follows.blocks (hb : u.asserted (.bflt d) = false) (hf : f u = openingObstruction d w) :
    Claims.Blocks d u (atChannel d f u) := by
  have hblank : (f u).blank d = u.blank d := by
    rw [hf, blank_openingObstruction]
    exact k.enters.blank
  have honly := onlyDoor_of_blank (blank_atChannel d u f hblank)
  have hcount := fun b => (openRetry_retried (w.guard d) b).trans k.retries
  have hretry := k.retry
  unfold Claims.Blocks
  dsimp only
  change _ ∧ Timers _ _ _ _ _ _ (if (u.guard d).retries < 3 then _ else _) ∧ _ ∧ _ = (u.guard d).retries ∧ _ ∧ _ ∧
    _ ∧ _ ∧ if (u.guard d).retries < 3 then _ else _
  by_cases hn : (u.guard d).retries < 3
  · have h := enters_openingObstruction k hb hn
    rw [← hf] at h
    rw [if_pos hn, if_pos hn, h.atChannel.chan, h.atChannel.guard]
    exact ⟨⟨rfl, rfl, rfl, rfl⟩, ⟨rfl, rfl, rfl, rfl, rfl, rfl⟩, k.leaf, hcount _, ⟨rfl, rfl⟩, k.reopen, honly,
      h.atChannel.demand, hretry.2, h.atChannel.noNotice, h.sends⟩
  · obtain ⟨v, hv, h⟩ := exhausts_openingObstruction k hb hn
    have hfv := hf.trans hv
    have hchan : (f u).chan d = (w.chan d).rest .openBlocked .brake false .off := hfv ▸ h.chan
    have hguard : (f u).guard d = (w.guard d).retried true := hfv ▸ h.guard
    have hdemand : (f u).demand d = u.demand d := hfv ▸ h.demand
    have hsent : (f u).sent = u.sent ++ [.countdownStart d] := by
      rw [hfv, ← show v.sent = u.sent from h.sent.trans (List.append_nil _)]
      rfl
    have hnotice : DoorNotice 2 PortState.standing d (f u) := hfv ▸ doorNotice_send _ (doorNotice_standing d v)
    rw [if_neg hn, if_neg hn, Sends, sent_atChannel, chan_atChannel, guard_atChannel, demand_atChannel, hchan, hguard,
      hsent]
    exact ⟨⟨rfl, rfl, rfl, rfl⟩, ⟨rfl, rfl, rfl, rfl, rfl, rfl⟩, k.leaf, hcount _, ⟨rfl, rfl⟩, k.reopen, honly,
      hdemand, rfl, doorNotice_atChannel hnotice, rfl⟩

end Blocked

end Sys2Proof.Machine
end

section
/-! SUPPORT. R86 to R90: what a closing detection does to a doorway, no bridge fault hindering. -/

namespace Sys2Proof.Machine

open Claims Safety

/-- R88: a channel in RELIEF. -/
def Channel.relieving (c : Channel) (level : Byte) : Channel := c.rest .relief (.driveOpen level) false .on

/-- R88: a guard section as RELIEF is entered. -/
def Guard.relieving (g : Guard) (interval : Nat) : Guard :=
  { g.idle with reliefSteps := 0, stage := .single, stallTimer := some interval }

/-- R86: a guard section with a closing detection recorded at a channel. -/
def Guard.noted (g : Guard) (c : Channel) (cause : ObsCause) (most : Nat) : Guard :=
  { g with
    reopenCount := min (g.reopenCount + 1) (most + 1), lastCause := some cause
    capturedPos := if c.referenced then some c.position else none
    capturedBand := if c.referenced then some (bandOf c.position) else none }

/-- R88: the leaf has no room to relieve. -/
def AtOpenEnd (d : Door) (u : State) : Prop :=
  (u.chan d).referenced = true ∧ u.cfg.openEnd d ≤ (u.chan d).position.val

theorem roomToRelieve_iff {d : Door} {u : State} : RoomToRelieve d u ↔ ¬ AtOpenEnd d u := by
  unfold RoomToRelieve AtOpenEnd
  rw [not_and, not_le]

section Detection
variable {d : Door} {u w : State} {f : State → State} {cause : ObsCause}

/-- R87: the placement that the model sends is the one that is claimed. -/
theorem placement_of_detection (d : Door) (u : State) :
    guardPlacements d u = if (u.guard d).reopenCount + 1 ≤ u.cfg.reopenMax ∧ (u.chan d).referenced = true
      then [.internalPlacement (grdPlacement u.cfg d (u.chan d).position)] else [] := rfl

/-- R86, R87: the detection recorded, and its placement sent, with what the leaf and the counts were in u. -/
def noting (d : Door) (cause : ObsCause) (u w : State) : State :=
  (w.modGuard d (fun g => g.noted (u.chan d) cause u.cfg.reopenMax)).sendAll (guardPlacements d u)

theorem State.sendAll_nil (s : State) : s.sendAll [] = s := by
  rw [State.sendAll, List.append_nil]

theorem detected_eq (d : Door) (cause : ObsCause) (u : State) : detected d cause u = noting d cause u u := by
  have hband : ∀ p : Position, (⟨p.val / 128 % 8, by omega⟩ : Fin 8) = bandOf p := fun p => by
    refine Fin.ext ?_
    show p.val / 128 % 8 = p.val / 128
    omega
  unfold detected
  simp only [hband]
  rfl

/-- R88: RELIEF is entered, or ended as it is entered. -/
theorem enterRelief_spec {es : List Instr} {c : Channel} {g : Guard} (h : Enters d es c g (u.demand d) u w)
    (hb : u.asserted (.bflt d) = false) (hleaf : SameLeaf (u.chan d) c) : ∃ v,
    Enters d es (c.relieving (u.cfg.reliefLevel d)) (g.relieving (u.cfg.stallInterval d)) (u.demand d) u v ∧
    (AtOpenEnd d u → enterRelief d w = endRelief d v) ∧ (¬ AtOpenEnd d u → enterRelief d w = v) := by
  have h1 := ((h.enterState .relief (.driveOpen (u.cfg.reliefLevel d)) false .on).modGuard
    (fun g => { g with reliefSteps := 0, stage := .single, stallTimer := some (u.cfg.stallInterval d) })).bridgeCheck hb
  have hcond : ∀ v : State, v.chan d = c.relieving (u.cfg.reliefLevel d) →
      (((v.chan d).state = .relief ∧ (v.chan d).referenced = true ∧ u.cfg.openEnd d ≤ (v.chan d).position.val) ↔
        AtOpenEnd d u) := fun v hv => by
    obtain ⟨hpos, href, -⟩ := hleaf
    rw [hv, AtOpenEnd, ← hpos, ← href]
    exact ⟨fun k => k.2, fun k => ⟨rfl, k⟩⟩
  refine ⟨_, h1, fun k => ?_, fun k => ?_⟩ <;> unfold enterRelief <;> dsimp only <;> rw [h.cfg]
  · exact if_pos ((hcond _ h1.chan).mpr k)
  · exact if_neg (fun hk => k ((hcond _ h1.chan).mp hk))

variable (k : Follows d u w)
include k

theorem Follows.enters_noting (cause : ObsCause) :
    Enters d (guardPlacements d u) (w.chan d) ((w.guard d).noted (u.chan d) cause u.cfg.reopenMax) (u.demand d) u
      (noting d cause u w) := by
  have h1 := k.enters.modGuard (fun g => g.noted (u.chan d) cause u.cfg.reopenMax)
  unfold noting
  rw [placement_of_detection]
  split
  · exact h1.send (sentFrom_grdPlacement _ _ _)
  · rw [State.sendAll_nil]
    exact h1

theorem Follows.closingDetection_eq (cause : ObsCause) :
    closingDetection d cause w = enterRelief d (noting d cause u w) := by
  obtain ⟨hpos, href, -⟩ := k.leaf
  obtain ⟨hcount, -⟩ := k.reopen
  have hiff : min ((u.guard d).reopenCount + 1) (u.cfg.reopenMax + 1) ≤ u.cfg.reopenMax ↔
      (u.guard d).reopenCount + 1 ≤ u.cfg.reopenMax := by omega
  have hmod : w.modGuard d (fun g => { g with
      reopenCount := min ((u.guard d).reopenCount + 1) (u.cfg.reopenMax + 1), lastCause := some cause
      capturedPos := if (u.chan d).referenced then some (u.chan d).position else none
      capturedBand := if (u.chan d).referenced then some (bandOf (u.chan d).position) else none }) =
      w.modGuard d (fun g => g.noted (u.chan d) cause u.cfg.reopenMax) := by
    rw [State.modGuard, State.modGuard, Guard.noted, hcount]
  unfold closingDetection noting
  dsimp only
  rw [hcount, k.cfg, hpos, href, hmod, placement_of_detection]
  simp only [hiff]
  split
  · rfl
  · rw [State.sendAll_nil]

/-- R86 to R88: a closing detection records itself, sends its placement, and enters RELIEF, which a leaf at OPEN_END
ends at once. -/
theorem closingDetection_spec (hb : u.asserted (.bflt d) = false) (cause : ObsCause) : ∃ v,
    Enters d (guardPlacements d u) ((w.chan d).relieving (u.cfg.reliefLevel d))
      (((w.guard d).noted (u.chan d) cause u.cfg.reopenMax).relieving (u.cfg.stallInterval d)) (u.demand d) u v ∧
    (AtOpenEnd d u → closingDetection d cause w = endRelief d v) ∧
    (¬ AtOpenEnd d u → closingDetection d cause w = v) := by
  rw [k.closingDetection_eq]
  exact enterRelief_spec (k.enters_noting cause) hb k.leaf

end Detection

section Detects
variable {d : Door} {u w : State} {f : State → State}

theorem enters_detected (d : Door) (u : State) (cause : ObsCause) :
    Enters d (guardPlacements d u) (u.chan d) ((u.guard d).noted (u.chan d) cause u.cfg.reopenMax) (u.demand d) u
      (detected d cause u) := detected_eq d cause u ▸ (Follows.refl d u).enters_noting cause

/-- What has been sent on both ways is nothing between their ends. -/
theorem Enters.rebase {es : List Instr} {c c' : Channel} {g g' : Guard} {r r' : Demand} {v : State}
    (h : Enters d es c g r u w) (k : Enters d es c' g' r' u v) : Enters d [] c g r v w :=
  ⟨h.blank.trans k.blank.symm, h.chan, h.guard, h.demand, fun p => (h.ports p).trans (k.ports p).symm,
    (h.sent.trans k.sent.symm).trans (List.append_nil _).symm⟩

/-- R86 to R90: a closing detection, at a leaf as it was found. -/
theorem Follows.detects (k : Follows d u w) (hb : u.asserted (.bflt d) = false) (hne : (u.chan d).state ≠ .standing)
    {cause : ObsCause} (hf : f u = closingDetection d cause w) : Detects d cause u (atChannel d f u) := by
  obtain ⟨v, h, hend, hroom⟩ := closingDetection_spec k hb cause
  obtain ⟨hpos, href, hrest⟩ := k.leaf
  obtain ⟨hcount, -⟩ := k.reopen
  unfold Detects
  by_cases hr : AtOpenEnd d u
  · rw [if_neg (fun hk => roomToRelieve_iff.mp hk hr)]
    intro htg
    have hd := enters_detected d u cause
    have hv := h.rebase hd
    rw [← hd.demand] at hv
    have hfol : Follows d (detected d cause u) v := hv.follows (by rw [hd.chan]; exact k.leaf)
      (by rw [hd.guard]; exact ⟨congrArg (fun n => min (n + 1) (u.cfg.reopenMax + 1)) hcount, rfl, rfl, rfl⟩)
      (by rw [hd.guard]; exact k.retry)
    rw [atChannel_from (d := d) (f := f) (u := detected d cause u) (by rw [hd.chan])]
    refine hfol.reliefEnds ((hd.asserted _).trans hb) (by rw [hd.chan]; exact hne) (.inr (fun tg htd => ?_))
      (hf.trans (hend hr))
    rw [hd.demand] at htd
    rw [hd.chan, hd.cfg]
    exact Nat.le_add_right_of_le ((htg tg htd).trans hr.2)
  · rw [if_pos (roomToRelieve_iff.mpr hr)]
    have hv := h
    rw [← hroom hr, ← hf] at hv
    refine ⟨?_, hv.plain⟩
    unfold Relieves
    rw [hv.atChannel.chan, hv.atChannel.guard]
    refine ⟨⟨rfl, rfl, rfl, rfl⟩, ⟨rfl, rfl, rfl, rfl, rfl, rfl⟩, k.leaf, ?_, rfl, rfl, ?_, rfl, rfl, rfl, k.retry⟩
    · rw [← hcount]
      rfl
    · show Option.map Fin.val (if (u.chan d).referenced = true then _ else none) = _
      cases (u.chan d).referenced <;> rfl

end Detects

end Sys2Proof.Machine
end

section
/-! SUPPORT. R48, R49: what a counted step does before the guard section sees it. -/

namespace Sys2Proof.Machine

open Claims Safety

/-! ### The encoder lines, which no entry writes -/

/-- The encoder lines of a channel (R48). -/
def Channel.encoder (c : Channel) : Level × Level := (c.encA, c.encB)

/-- The encoder lines of doorway d stand at l. -/
def Turned (d : Door) (l : Level × Level) (s : State) : Prop := (s.chan d).encoder = l

section Turned
variable {d : Door} {l : Level × Level} {s : State}

theorem Turned.modChan (h : Turned d l s) (f : Channel → Channel) (hf : ∀ c, (f c).encoder = c.encoder) :
    Turned d l (s.modChan d f) := by
  rw [Turned, State.chan_modChan, hf]
  exact h

theorem Turned.modGuard (h : Turned d l s) (f : Guard → Guard) : Turned d l (s.modGuard d f) := h
theorem Turned.send (h : Turned d l s) (c : Instr) : Turned d l (s.send c) := h
theorem Turned.raiseDoor (h : Turned d l s) (k : NoticeKind) (e : Door) : Turned d l (s.raiseDoor k e) := h

theorem Turned.enterState (h : Turned d l s) (st : ChState) (dr : Drive) (sol : Bool) (lamp : Lamp) :
    Turned d l (enterState d st dr sol lamp s) := (h.modChan (·.rest st dr sol lamp) (fun _ => rfl)).modGuard _

theorem Turned.clearReferenced (h : Turned d l s) : Turned d l (clearReferenced d s) := by
  have h1 := h.modChan (fun c => { c with referenced := false }) (fun _ => rfl)
  unfold Machine.clearReferenced
  dsimp only
  split
  · exact h1
  · exact h1

theorem Turned.enterFaulted (h : Turned d l s) : Turned d l (enterFaulted d s) :=
  (h.enterState .faulted .free false .off).clearReferenced

theorem Turned.detectCause (h : Turned d l s) (f : FaultCause) : Turned d l (detectCause d f s) := by
  have h1 := (h.modChan (fun c => { c with fault := some (recordCause c f) }) (fun _ => rfl)).raiseDoor .fault d
  unfold Machine.detectCause
  dsimp only
  split
  · exact h1
  · exact h1.enterFaulted

theorem Turned.bridgeCheck (h : Turned d l s) : Turned d l (bridgeCheck d s) := by
  unfold Machine.bridgeCheck
  split
  · exact h.detectCause _
  · exact h

theorem Turned.enterOpen (h : Turned d l s) : Turned d l (enterOpen d s) :=
  (((h.enterState .isOpen .brake false .off).modGuard _).send _).bridgeCheck

theorem Turned.openingObstruction (h : Turned d l s) : Turned d l (openingObstruction d s) := by
  have h1 := h.enterState .openBlocked .brake false .off
  unfold Machine.openingObstruction
  dsimp only
  split
  · exact ((h1.modGuard _).modChan _ (fun _ => by rfl)).bridgeCheck
  · exact ((((h1.modGuard _).modGuard _).raiseDoor .standing d).send _).bridgeCheck

theorem Turned.beginOpening (h : Turned d l s) (slide : Bool) : Turned d l (beginOpening d slide s) := by
  have h1 := (((h.enterState .plugOut .free false .off).modChan
    (fun c => { c.openProfile s.cfg d slide with travel := some (.opening, s.cfg.travelOpen d) })
    (fun _ => rfl)).modGuard (·.beginMotion (s.cfg.stallInterval d))).bridgeCheck
  unfold Machine.beginOpening
  dsimp only
  split
  · exact h1.openingObstruction
  · exact h1

theorem Turned.openByPosition (h : Turned d l s) : Turned d l (openByPosition d s) := by
  unfold Machine.openByPosition
  dsimp only
  split
  · exact h
  split
  · exact h.enterOpen
  · exact h.beginOpening _

theorem Turned.enterWarning (h : Turned d l s) : Turned d l (enterWarning d s) :=
  ((h.enterState .warning .brake false (.flashing true)).modChan _ (fun _ => by rfl)).bridgeCheck

theorem Turned.enterEgress (h : Turned d l s) : Turned d l (enterEgress d s) :=
  ((h.enterState .egress .free true .off).modChan (fun c => { c with plaus := none }) (fun _ => rfl)).clearReferenced

theorem Turned.endRelief (h : Turned d l s) : Turned d l (endRelief d s) := by
  unfold Machine.endRelief
  split
  · exact h.enterState .standing .free false (.flashing true)
  split
  · exact h.openByPosition
  · exact h.enterWarning
  · exact h.enterWarning
  · exact h.enterEgress

theorem Turned.enterRelief (h : Turned d l s) : Turned d l (enterRelief d s) := by
  have h1 := ((h.enterState .relief (.driveOpen (s.cfg.reliefLevel d)) false .on).modGuard
    (fun g => { g with reliefSteps := 0, stage := .single, stallTimer := some (s.cfg.stallInterval d) })).bridgeCheck
  unfold Machine.enterRelief
  dsimp only
  split
  · exact h1.endRelief
  · exact h1

theorem Turned.closingDetection (h : Turned d l s) (cause : ObsCause) : Turned d l (closingDetection d cause s) := by
  unfold Machine.closingDetection
  refine Turned.enterRelief ?_
  split
  · exact h
  · exact h

theorem Turned.atChannel {f : State → State} (h : Turned d l (f s)) : Turned d l (atChannel d f s) := by
  rw [Turned, chan_atChannel]
  exact h

theorem Turned.settle (h : Turned d l s) : Turned d l s.settle := h

end Turned

/-! ### The counted step (R49) -/

/-- The part with the encoder of doorway d turned and the step counted. -/
def counted (d : Door) (dir : Dir) (s : State) : State :=
  (s.modChan d (·.turnEncoder dir)).modChan d (·.count dir)

section Counted
variable {d : Door} {dir : Dir} {s t : State}

/-- Two changes of one channel are one. -/
theorem State.modChan_modChan (s : State) (d : Door) (f g : Channel → Channel) :
    (s.modChan d f).modChan d g = s.modChan d (fun c => g (f c)) := by
  unfold State.modChan
  rw [State.chan_setChan]
  simp [State.setChan]

theorem position_count (c : Channel) (dir : Dir) : (c.count dir).position.val =
    match dir with
    | .opening => (c.position.val + 1) % 1024
    | .closing => (c.position.val + 1023) % 1024 := by
  cases dir
  · rfl
  · show (c.position - 1).val = _
    rw [Fin.sub_def]
    show (1024 - 1 + c.position.val) % 1024 = _
    rw [Nat.add_comm]

theorem turnEncoder_eq (c : Channel) (dir : Dir) : c.turnEncoder dir =
    { c with encA := (c.turnEncoder dir).encA, encB := (c.turnEncoder dir).encB } := by
  unfold Channel.turnEncoder
  split <;> rfl

theorem count_eq (c : Channel) (dir : Dir) :
    c.count dir = { c with position := (c.count dir).position, band := bandOf (c.count dir).position } := by
  cases dir <;> rfl

theorem position_turnEncoder (c : Channel) (dir : Dir) : (c.turnEncoder dir).position = c.position := by
  rw [turnEncoder_eq]

/-- R48, R49: the channel of a counted step. -/
theorem chan_counted (d : Door) (dir : Dir) (s : State) : (counted d dir s).chan d = { s.chan d with
    position := stepTo s d dir, band := bandOf (stepTo s d dir)
    encA := ((s.chan d).turnEncoder dir).encA, encB := ((s.chan d).turnEncoder dir).encB } := by
  have hpos : (((s.chan d).turnEncoder dir).count dir).position = stepTo s d dir := by
    refine Fin.ext ?_
    rw [position_count, position_turnEncoder]
    cases dir <;> rfl
  rw [counted, State.chan_modChan, State.chan_modChan, count_eq, hpos, turnEncoder_eq]

/-- The leaf that a statement moves is the one that the step has moved, once nothing else turns its encoder. -/
theorem leafMoved_eq (h : Turned d ((s.chan d).turnEncoder dir).encoder t) :
    leafMoved d (stepTo s d dir) s t = counted d dir s := by
  have hA : (t.chan d).encA = ((s.chan d).turnEncoder dir).encA := congrArg Prod.fst h
  have hB : (t.chan d).encB = ((s.chan d).turnEncoder dir).encB := congrArg Prod.snd h
  have hband : (⟨(stepTo s d dir).val / 128 % 8, by omega⟩ : Fin 8) = bandOf (stepTo s d dir) := by
    refine Fin.ext ?_
    show (stepTo s d dir).val / 128 % 8 = (stepTo s d dir).val / 128
    omega
  have hchan := chan_counted d dir s
  unfold counted at hchan ⊢
  rw [State.modChan_modChan, State.chan_modChan] at hchan
  rw [State.modChan_modChan, leafMoved, State.modChan, State.modChan, hchan, hA, hB, hband]

theorem turned_counted : Turned d ((s.chan d).turnEncoder dir).encoder (counted d dir s) := by
  rw [Turned, chan_counted]
  rfl

theorem enters_counted (d : Door) (dir : Dir) (s : State) :
    Enters d [] ((counted d dir s).chan d) (s.guard d) (s.demand d) s (counted d dir s) := by
  have h := ((Enters.refl d s).modChan (·.turnEncoder dir)).modChan (·.count dir)
  exact ⟨h.blank, rfl, h.guard, h.demand, h.ports, h.sent⟩

theorem state_counted : ((counted d dir s).chan d).state = (s.chan d).state := by rw [chan_counted]

/-- R49: a referenced step within its range is counted, and the channel acts on it. -/
theorem exec_encoderStep (hm : Moving d s) (hu : (s.chan d).state ≠ .unfitted) (hc : StepCounts s d dir) :
    exec (.encoderStep d dir) s =
      .next (atChannel d (afterStep d ((s.chan d).turnEncoder dir)) (counted d dir s)).settle := by
  obtain ⟨hrunning, hrun⟩ := hm
  have hchan : (s.modChan d (·.turnEncoder dir)).chan d = (s.chan d).turnEncoder dir := State.chan_modChan ..
  have hstate : ((s.chan d).turnEncoder dir).state = (s.chan d).state := by rw [turnEncoder_eq]
  have href : ((s.chan d).turnEncoder dir).referenced = (s.chan d).referenced := by rw [turnEncoder_eq]
  have hpos := position_turnEncoder (s.chan d) dir
  have hrun' : (s.modChan d (·.turnEncoder dir)).chanInRun d = true := hrun
  have hrange : ((s.chan d).referenced && outOfRange s.cfg d ((s.chan d).turnEncoder dir) dir) = false := by
    rw [Bool.and_eq_false_iff]
    by_cases hr : (s.chan d).referenced = true
    · right
      have hin := hc hr
      unfold outOfRange
      rw [hpos]
      cases dir
      · simp only [Bool.or_eq_false_iff, decide_eq_false_iff_not]
        omega
      · simp only [decide_eq_false_iff_not]
        exact Nat.pos_iff_ne_zero.mp hin
    · left
      exact eq_false_of_ne_true hr
  have htake : takeStep d dir (s.modChan d (·.turnEncoder dir)) =
      atChannel d (afterStep d ((s.chan d).turnEncoder dir)) (counted d dir s) := by
    unfold takeStep
    dsimp only
    rw [hchan, hstate, href, if_neg hu, hrun', if_neg (by decide)]
    have hcfg : (s.modChan d (·.turnEncoder dir)).cfg = s.cfg := rfl
    rw [hcfg, hrange]
    rfl
  show execEncoderStep d dir s = _
  unfold execEncoderStep
  dsimp only
  rw [hrunning, if_pos rfl, htake]

/-- R135: a step that does not leave the closed switch made in the slide. -/
theorem stepInSlide_of_not {b : Channel} (hc : StepCounts s d dir) (hno : ¬ ClosedInSlide s d dir)
    (hb : b.position = (s.chan d).position) (hr : (t.chan d).referenced = (s.chan d).referenced)
    (hp : (t.chan d).position = stepTo s d dir) (hl : ∀ l, t.asserted l = s.asserted l) (hcfg : t.cfg = s.cfg) :
    stepInSlide d b t = t := by
  unfold stepInSlide
  dsimp only
  rw [hb, hr, hp, hl, hcfg]
  refine if_neg (fun ⟨href, hplug, hnew, hcls⟩ => ?_)
  have hin := hc href
  cases dir
  · exact hno ⟨rfl, href, hplug, hcls⟩
  · have hval : (stepTo s d .closing).val = ((s.chan d).position.val + 1023) % 1024 := rfl
    rw [hval] at hnew
    dsimp only at hin
    omega

end Counted

end Sys2Proof.Machine
end

section
/-! PROOF. R83, R88, R90: a relief ends after its steps. -/

namespace Sys2Proof.Machine

open Claims Safety

/-- R88: a guard section that has counted a step of a relief. -/
def stepped (d : Door) (n : Nat) (s : State) : State :=
  s.modGuard d (fun g => { g with reliefSteps := n, stallTimer := some (s.cfg.stallInterval d) })

/-- R88: a step in RELIEF is counted at the guard section, which may end the relief. -/
theorem afterStep_of_relief {d : Door} {dir : Dir} {s : State} (hst : (s.chan d).state = .relief)
    (hc : StepCounts s d dir) (hno : ¬ ClosedInSlide s d dir) :
    afterStep d ((s.chan d).turnEncoder dir) (counted d dir s) =
      if s.cfg.reliefSteps d ≤ (s.guard d).reliefSteps + 1 ∨
        ((s.chan d).referenced = true ∧ s.cfg.openEnd d ≤ (stepTo s d dir).val)
      then endRelief d (stepped d ((s.guard d).reliefSteps + 1) (counted d dir s))
      else stepped d ((s.guard d).reliefSteps + 1) (counted d dir s) := by
  have h := enters_counted d dir s
  have hchan := chan_counted d dir s
  have hstate : ((counted d dir s).chan d).state = .relief := state_counted.trans hst
  have hbefore : ((s.chan d).turnEncoder dir).state = .relief := by rw [turnEncoder_eq]; exact hst
  have hgeo : stepGeometry d (counted d dir s) = counted d dir s := by
    unfold stepGeometry
    rw [hstate]
  have hslide : stepInSlide d ((s.chan d).turnEncoder dir) (counted d dir s) = counted d dir s :=
    stepInSlide_of_not hc hno (position_turnEncoder _ _) (by rw [hchan]) (by rw [hchan]) h.asserted h.cfg
  have hmotion : ¬ isMotionState ((counted d dir s).chan d).state = true := by rw [hstate]; decide
  rw [afterStep, hgeo, hslide, stepAtGuard, if_neg hmotion, if_pos ⟨hstate, hbefore⟩]
  unfold stepInRelief
  dsimp only
  rw [h.guard, h.cfg, hchan]
  rfl

/-- Settles O42, by the step that the guard section counts: the relief ends from the leaf as the step has moved it. -/
theorem reliefEndsAfterItsSteps : Obligations.ReliefEndsAfterItsSteps := by
  intro d dir s hm ⟨hb, hfrc, _⟩ hst hc hno
  dsimp only
  have hu : (s.chan d).state ≠ .unfitted := by rw [hst]; decide
  refine ⟨_, exec_encoderStep hm hu hc, ?_⟩
  have hafter := afterStep_of_relief hst hc hno
  have h := enters_counted d dir s
  have h1 := h.modGuard (fun g => { g with
    reliefSteps := (s.guard d).reliefSteps + 1, stallTimer := some (s.cfg.stallInterval d) })
  have hstepped : (counted d dir s).modGuard d (fun g => { g with
      reliefSteps := (s.guard d).reliefSteps + 1, stallTimer := some (s.cfg.stallInterval d) }) =
      stepped d ((s.guard d).reliefSteps + 1) (counted d dir s) := rfl
  have hturned : Turned d ((s.chan d).turnEncoder dir).encoder
      (stepped d ((s.guard d).reliefSteps + 1) (counted d dir s)) := turned_counted
  generalize afterStep d ((s.chan d).turnEncoder dir) = f at hafter ⊢
  split
  · rename_i hend
    rw [if_pos hend] at hafter
    have hlines : Turned d ((s.chan d).turnEncoder dir).encoder (atChannel d f (counted d dir s)).settle :=
      (hafter ▸ hturned.endRelief : Turned d _ (f (counted d dir s))).atChannel.settle
    rw [leafMoved_eq hlines, hstepped, atChannel_from (s := counted d dir s) (u := stepped d _ (counted d dir s)) rfl]
    refine reliefEnds_settle ((Follows.refl d _).reliefEnds ((h1.asserted _).trans hb) ?_
      (.inl ((h1.asserted _).trans hfrc)) hafter)
    show ((counted d dir s).chan d).state ≠ .standing
    rw [state_counted, hst]
    decide
  · rename_i hend
    rw [if_neg hend] at hafter
    have hlines : Turned d ((s.chan d).turnEncoder dir).encoder (atChannel d f (counted d dir s)).settle :=
      (hafter ▸ hturned : Turned d _ (f (counted d dir s))).atChannel.settle
    rw [leafMoved_eq hlines, atChannel_from (u := s) state_counted.symm]
    rw [hstepped, ← hafter] at h1
    have ht := Enters.atChannel (f := fun _ => f (counted d dir s)) h1
    have hplain := Enters.plain (f := fun _ => f (counted d dir s)) h1
    rw [State.guard_modGuard]
    exact ⟨ht.chan, ht.guard, plain_settle hplain⟩

end Sys2Proof.Machine
end

section
/-! SUPPORT. R80 to R83: the events at a channel in RUN, and a counted step in a motion at its guard section. -/

namespace Sys2Proof.Machine

open Claims Safety

section Events
variable {d : Door} {s s1 : State} {f : State → State}

theorem inRun_of_run (hr : s.chanInRun d = true) : inRun d f s = atChannel d f s := if_pos hr

/-- A timer of a channel in RUN. -/
theorem act_inRun (hm : Moving d s) (f : State → State) : act s (inRun d f) = .next (atChannel d f s).settle := by
  rw [act_of_running _ hm.1, inRun_of_run hm.2]

/-- An event of the lines at a channel in RUN. -/
theorem actSent_inRun {c : Instr} (hrun : s.running = true) (ht : s.takeSent c = some s1)
    (hr : s1.chanInRun d = true) (f : State → State) :
    actSent s c (inRun d f) = .next (atChannel d f s1).settle := by
  rw [actSent_of_taken _ hrun ht, inRun_of_run hr]

/-- An event that does nothing. -/
theorem stands_of (hf : f s = s) : (atChannel d f s).chan d = s.chan d ∧ (atChannel d f s).guard d = s.guard d ∧
    Plain d [] s (atChannel d f s).settle := by
  have h := Enters.refl d s
  have hplain : Plain d [] s (atChannel d f s) := Enters.plain (f := f) (by rw [hf]; exact h)
  rw [chan_atChannel, guard_atChannel, hf]
  exact ⟨rfl, rfl, plain_settle hplain⟩

end Events

/-! ### The guard section at a step in a motion -/

/-- R80, R83: the supervisions of a motion once a step has been counted. In REFERENCING the drive is back at its
level. -/
def supervised (d : Door) (s : State) : State :=
  let s1 := s.modGuard d (fun g => { g with
    blank := min ((s.guard d).blank + 1) (s.cfg.blankSteps d), stage := .normal
    stallTimer := some (s.cfg.stallInterval d) })
  if (s1.chan d).state = .referencing
  then s1.modChan d (fun c => { c with drive := .driveClose (s.cfg.refLevel d) }) else s1

/-- R81: the edge is held as the leaf leaves the muted zone. -/
abbrev FindsEdge (d : Door) (b : Channel) (s : State) : Prop :=
  s.asserted (.edge d) = true ∧ edgeWatched s.cfg d (s.chan d) = true ∧ edgeWatched s.cfg d b = false

/-- R82: a force is held as the blanking is completed. -/
abbrev FindsForce (d : Door) (s : State) : Prop :=
  (s.guard d).blank < s.cfg.blankSteps d ∧ min ((s.guard d).blank + 1) (s.cfg.blankSteps d) = s.cfg.blankSteps d ∧
    s.asserted (.frc d) = true

section Motion
variable {d : Door} {s : State}

theorem supervised_referencing (h : (s.chan d).state = .referencing) : supervised d s =
    (s.modGuard d (fun g => { g with
      blank := min ((s.guard d).blank + 1) (s.cfg.blankSteps d), stage := .normal
      stallTimer := some (s.cfg.stallInterval d) })).modChan d
      (fun c => { c with drive := .driveClose (s.cfg.refLevel d) }) := if_pos h

theorem supervised_moving (h : (s.chan d).state ≠ .referencing) : supervised d s =
    s.modGuard d (fun g => { g with
      blank := min ((s.guard d).blank + 1) (s.cfg.blankSteps d), stage := .normal
      stallTimer := some (s.cfg.stallInterval d) }) := if_neg h

theorem follows_supervised (d : Door) (s : State) : Follows d s (supervised d s) := by
  have h := (Enters.refl d s).modGuard (fun g => { g with
    blank := min ((s.guard d).blank + 1) (s.cfg.blankSteps d), stage := .normal
    stallTimer := some (s.cfg.stallInterval d) })
  by_cases hst : (s.chan d).state = .referencing
  · rw [supervised_referencing hst]
    exact (h.modChan (fun c => { c with drive := .driveClose (s.cfg.refLevel d) })).follows
      ⟨rfl, rfl, rfl, rfl, rfl, rfl, rfl⟩ ⟨rfl, rfl, rfl, rfl⟩ ⟨rfl, rfl⟩
  · rw [supervised_moving hst]
    exact h.follows ⟨rfl, rfl, rfl, rfl, rfl, rfl, rfl⟩ ⟨rfl, rfl, rfl, rfl⟩ ⟨rfl, rfl⟩

theorem Enters.supervised {es : List Instr} {c : Channel} {g : Guard} {r : Demand} {v : State}
    (h : Enters d es c g r s v) (hst : c.state = .referencing) :
    Enters d es { c with drive := .driveClose (s.cfg.refLevel d) }
      { g with
        blank := min (g.blank + 1) (s.cfg.blankSteps d), stage := .normal
        stallTimer := some (s.cfg.stallInterval d) } r s (supervised d v) := by
  rw [supervised_referencing (by rw [h.chan]; exact hst), h.guard, h.cfg]
  exact (h.modGuard (fun g' => { g' with
    blank := min (g.blank + 1) (s.cfg.blankSteps d), stage := .normal
    stallTimer := some (s.cfg.stallInterval d) })).modChan
    (fun c => { c with drive := .driveClose (s.cfg.refLevel d) })

theorem state_supervised (d : Door) (s : State) : ((supervised d s).chan d).state = (s.chan d).state := by
  by_cases hst : (s.chan d).state = .referencing
  · rw [supervised_referencing hst, State.chan_modChan]
    rfl
  · rw [supervised_moving hst]
    rfl

/-- R81, R82, log 16: what a step finds at the guard section, the edge first. -/
theorem stepInMotion_eq (d : Door) (b : Channel) (s : State) : stepInMotion d b s =
    if FindsEdge d b s then closingDetection d .edge (supervised d s)
    else if FindsForce d s then forceDetection d (supervised d s) else supervised d s := by
  have k := follows_supervised d s
  obtain ⟨hpos, -⟩ := k.leaf
  have hwatched : edgeWatched s.cfg d ((supervised d s).chan d) = edgeWatched s.cfg d (s.chan d) := by
    rw [edgeWatched, edgeWatched, state_supervised, hpos]
  have hstep : stepInMotion d b s =
      if ((supervised d s).asserted (.edge d) && edgeWatched s.cfg d ((supervised d s).chan d) &&
        !edgeWatched s.cfg d b) = true then closingDetection d .edge (supervised d s)
      else if (s.guard d).blank < s.cfg.blankSteps d ∧
        min ((s.guard d).blank + 1) (s.cfg.blankSteps d) = s.cfg.blankSteps d ∧
        (supervised d s).asserted (.frc d) = true then forceDetection d (supervised d s) else supervised d s := rfl
  rw [hstep, k.asserted, k.asserted, hwatched]
  simp only [Bool.and_eq_true, Bool.not_eq_true', and_assoc]

end Motion

end Sys2Proof.Machine
end

section
/-! PROOF. R83, R88, R90: the stall interval. -/

namespace Sys2Proof.Machine

open Claims Safety

/-- R52: a level worked out as a sum is capped. -/
theorem capAdd_eq (a b : Byte) : capAdd a b = BitVec.ofNat 8 (min 255 (a.toNat + b.toNat)) := by
  unfold capAdd
  refine BitVec.eq_of_toNat_eq ?_
  split
  · rename_i h
    rw [Nat.min_eq_left (by omega)]
  · rename_i h
    rw [Nat.min_eq_right (by omega), BitVec.toNat_add, BitVec.toNat_ofNat]

section Stall
variable {d : Door} {s : State}

/-- R83: the interval of a motion boosts its drive, and starts the grace. -/
theorem stallIntervalEnd_normal (h : (s.guard d).stage = .normal) : stallIntervalEnd d s =
    (s.modChan d (fun c => { c with drive := c.drive.boosted (s.cfg.boost d) })).modGuard d
      (fun g => { g with stage := .warn, stallTimer := some (s.cfg.stallGrace d) }) := by
  rw [stallIntervalEnd, h]

theorem stallIntervalEnd_single (h : (s.guard d).stage = .single) : stallIntervalEnd d s = endRelief d s := by
  rw [stallIntervalEnd, h]

theorem stallIntervalEnd_other (h : (s.guard d).stage = .idle ∨ (s.guard d).stage = .warn) :
    stallIntervalEnd d s = s := by
  rcases h with h | h <;> rw [stallIntervalEnd, h]

/-- R56, R83: a step of an unreferenced leaf in REFERENCING, its lines at rest, is supervised and no more. -/
theorem afterStep_referencing {dir : Dir} (hf : s.asserted (.frc d) = false) (he : s.asserted (.edge d) = false)
    (hst : (s.chan d).state = .referencing) (href : (s.chan d).referenced = false) :
    afterStep d ((s.chan d).turnEncoder dir) (counted d dir s) = supervised d (counted d dir s) := by
  have h := enters_counted d dir s
  have hstate : ((counted d dir s).chan d).state = .referencing := state_counted.trans hst
  have hgeo : stepGeometry d (counted d dir s) = counted d dir s := by
    unfold stepGeometry
    rw [hstate]
  have hno : ¬ ((s.chan d).referenced = true) := by rw [href]; decide
  have hslide : stepInSlide d ((s.chan d).turnEncoder dir) (counted d dir s) = counted d dir s :=
    stepInSlide_of_not (fun k => absurd k hno) (fun k => hno k.2.1) (position_turnEncoder _ _) (by rw [chan_counted])
      (by rw [chan_counted]) h.asserted h.cfg
  have hmotion : isMotionState ((counted d dir s).chan d).state = true := by rw [hstate]; rfl
  rw [afterStep, hgeo, hslide, stepAtGuard, if_pos hmotion, stepInMotion_eq, if_neg, if_neg]
  · rintro ⟨_, _, hfrc⟩
    rw [h.asserted, hf] at hfrc
    cases hfrc
  · rintro ⟨hedge, _⟩
    rw [h.asserted, he] at hedge
    cases hedge

end Stall

/-- Settles O49, by the stage of the guard section at the expiry, and by the supervision of a step in REFERENCING. -/
theorem stallIntervalBoostsTheDrive : Obligations.StallIntervalBoostsTheDrive := by
  intro d s hm ⟨hb, hf, he⟩
  refine ⟨⟨_, act_inRun hm (stallIntervalEnd d), fun hstage => ?_, fun hstage hst => ?_, fun hstage => ?_⟩,
    fun dir hst href => ⟨_, exec_encoderStep hm (by rw [hst]; decide) (fun k => by rw [href] at k; cases k), ?_⟩⟩
  · have h := ((Enters.refl d s).modChan (fun c => { c with drive := c.drive.boosted (s.cfg.boost d) })).modGuard
      (fun g => { g with stage := .warn, stallTimer := some (s.cfg.stallGrace d) })
    rw [← stallIntervalEnd_normal hstage] at h
    refine ⟨h.atChannel.chan.trans ?_, h.atChannel.guard, plain_settle h.plain⟩
    cases hdrive : (s.chan d).drive <;> simp only [Drive.boosted, capAdd_eq]
  · refine reliefEnds_settle ((Follows.refl d s).reliefEnds hb ?_ (.inl hf) (stallIntervalEnd_single hstage))
    rw [hst]
    decide
  · exact stands_of (stallIntervalEnd_other hstage)
  · have hafter := afterStep_referencing (dir := dir) hf he hst href
    have hstate : ((counted d dir s).chan d).state = .referencing := state_counted.trans hst
    have h := (enters_counted d dir s).supervised (state_counted.trans hst)
    rw [← hafter] at h
    rw [atChannel_from (s := counted d dir s) (u := s) state_counted.symm]
    have ht := Enters.atChannel (f := fun _ => afterStep d ((s.chan d).turnEncoder dir) (counted d dir s)) h
    have hplain := Enters.plain (f := fun _ => afterStep d ((s.chan d).turnEncoder dir) (counted d dir s)) h
    rw [State.settle_chan, State.settle_guard, ht.chan, ht.guard]
    exact ⟨hstate, rfl, rfl, rfl, plain_settle hplain⟩

end Sys2Proof.Machine
end

section
/-! SUPPORT. R59 to R66, R81, R82: what a detection finds: the watched edge, the motions, the geometry of a counted
step, and the beginning of an opening motion under a held force. -/

namespace Sys2Proof.Machine

open Claims Safety

/-- The motions that close a leaf (R86). -/
abbrev ClosingMotion (st : ChState) : Prop := st = .slideClose ∨ st = .plugIn ∨ st = .referencing

/-- The motions that open a leaf (R94). -/
abbrev OpeningMotion (st : ChState) : Prop := st = .plugOut ∨ st = .slideOpen

section States
variable {st : ChState}

theorem isMotionState_iff : isMotionState st = true ↔ ClosingMotion st ∨ OpeningMotion st := by
  cases st <;> decide

theorem isOpeningState_of_closing (h : ClosingMotion st) : isOpeningState st = false := by
  rcases h with rfl | rfl | rfl <;> rfl

theorem isOpeningState_of_opening (h : OpeningMotion st) : isOpeningState st = true := by
  rcases h with rfl | rfl <;> rfl

theorem ne_standing_of_motion (h : ClosingMotion st ∨ OpeningMotion st) : st ≠ .standing := by
  rcases h with (rfl | rfl | rfl) | (rfl | rfl) <;> decide

theorem ne_unfitted_of_motion (h : ClosingMotion st ∨ OpeningMotion st) : st ≠ .unfitted := by
  rcases h with (rfl | rfl | rfl) | (rfl | rfl) <;> decide

end States

section Finds
variable {d : Door} {s t : State}

/-- R81, Table 4-2: the watched edge, as the statements read it. -/
theorem edgeWatched_eq {cfg : Image} (h : cfg = s.cfg) (c : Channel) :
    edgeWatched cfg d c = edgeSees s d c.state c.position.val := by
  rw [h]
  unfold edgeWatched edgeSees
  simp only [beq_eq_decide]

theorem closing_of_edgeSees {st : ChState} {p : Nat} (h : edgeSees s d st p = true) : ClosingMotion st := by
  unfold edgeSees at h
  simp only [Bool.or_eq_true, decide_eq_true_eq, Bool.and_eq_true] at h
  rcases h with (h | h) | h
  · exact .inl h
  · exact .inr (.inr h)
  · exact .inr (.inl h.1)

/-- R82: a force in a closing motion is a closing detection, and in an opening one an obstruction. -/
theorem forceDetection_closing (h : ClosingMotion (s.chan d).state) :
    forceDetection d s = closingDetection d .force s := by
  rw [forceDetection, isOpeningState_of_closing h]
  rfl

theorem forceDetection_opening (h : OpeningMotion (s.chan d).state) : forceDetection d s = openingObstruction d s := by
  rw [forceDetection, isOpeningState_of_opening h]
  rfl

/-- A change of a channel that changes nothing. -/
theorem State.modChan_eq_self {f : Channel → Channel} (h : f (s.chan d) = s.chan d) : s.modChan d f = s := by
  rw [State.modChan, h, State.setChan, State.chan]
  simp

/-- R81: an edge that a warning finds restarts the interval that it has. -/
theorem restartWarning_eq_self : restartWarning d s = s := by
  have hwarn : (s.chan d).warn.map (fun chosen => chosen) = (s.chan d).warn := by cases (s.chan d).warn <;> rfl
  refine State.modChan_eq_self ?_
  rw [hwarn]

theorem Follows.trans {v : State} (h : Follows d s t) (k : Follows d t v) : Follows d s v := by
  have he := h.enters.trans k.enters
  rw [h.demand] at he
  obtain ⟨a1, a2, a3, a4, a5, a6, a7⟩ := h.leaf
  obtain ⟨b1, b2, b3, b4⟩ := h.reopen
  obtain ⟨e1, e2⟩ := h.retry
  obtain ⟨p1, p2, p3, p4, p5, p6, p7⟩ := k.leaf
  obtain ⟨q1, q2, q3, q4⟩ := k.reopen
  obtain ⟨r1, r2⟩ := k.retry
  exact ⟨he, ⟨p1.trans a1, p2.trans a2, p3.trans a3, p4.trans a4, p5.trans a5, p6.trans a6, p7.trans a7⟩,
    ⟨q1.trans b1, q2.trans b2, q3.trans b3, q4.trans b4⟩, ⟨r1.trans e1, r2.trans e2⟩⟩

theorem Follows.turned {l : Level × Level} (k : Follows d s t) (h : Turned d l s) : Turned d l t := by
  obtain ⟨_, _, _, _, _, hA, hB⟩ := k.leaf
  rw [← h]
  exact Prod.ext hA hB

end Finds

/-! ### The geometry of a step (R59, R60, R65, R66) -/

section Geometry
variable {d : Door} {s : State} (hb : s.asserted (.bflt d) = false)

/-- Doorway d alone has changed, in nothing but the state and the outputs of its channel, to the phase that its position
has. -/
structure Passes (d : Door) (s t : State) : Prop where
  follows : Follows d s t
  guard : t.guard d = s.guard d
  phase : (t.chan d).state = phaseAt s d (s.chan d).state (s.chan d).position.val

theorem Passes.of_modChan {f : Channel → Channel} (hl : SameLeaf (s.chan d) (f (s.chan d)))
    (hp : (f (s.chan d)).state = phaseAt s d (s.chan d).state (s.chan d).position.val) :
    Passes d s (s.modChan d f) :=
  ⟨((Enters.refl d s).modChan f).follows hl ⟨rfl, rfl, rfl, rfl⟩ ⟨rfl, rfl⟩, rfl,
    by rw [State.chan_modChan]; exact hp⟩

include hb in
theorem passOpening_eq (slide : Bool) : passOpening d slide s = s.modChan d (Channel.openProfile s.cfg d slide) := by
  unfold passOpening
  dsimp only
  split
  · rfl
  · exact bridgeCheck_of_clear hb

include hb in
theorem passClosing_eq (slide : Bool) : passClosing d slide s = s.modChan d (Channel.closeProfile s.cfg d slide) := by
  unfold passClosing
  dsimp only
  split
  · rfl
  · exact bridgeCheck_of_clear hb

include hb in
theorem passes_opening (hst : OpeningMotion (s.chan d).state) :
    Passes d s (passOpening d (decide (s.cfg.plugPoint d ≤ (s.chan d).position.val)) s) := by
  rw [passOpening_eq hb]
  refine .of_modChan ⟨rfl, rfl, rfl, rfl, rfl, rfl, rfl⟩ ?_
  rw [phaseAt, if_pos hst]
  exact if_congr decide_eq_true_iff rfl rfl

include hb in
theorem passes_closing (hst : (s.chan d).state = .slideClose ∨ (s.chan d).state = .plugIn) :
    Passes d s (passClosing d (decide (s.cfg.plugPoint d < (s.chan d).position.val)) s) := by
  have hno : ¬ OpeningMotion (s.chan d).state := by
    rcases hst with h | h <;> rw [h] <;> decide
  rw [passClosing_eq hb]
  refine .of_modChan ⟨rfl, rfl, rfl, rfl, rfl, rfl, rfl⟩ ?_
  rw [phaseAt, if_neg hno, if_pos hst]
  exact if_congr decide_eq_true_iff rfl rfl

theorem lockZoneReached_iff : lockZoneReached d s = true ↔ (s.chan d).state = .plugIn ∧
    (s.chan d).position.val ≤ s.cfg.lockWindow d ∧ s.asserted (.cls d) = true := by
  unfold lockZoneReached
  rw [Bool.and_eq_true, Bool.and_eq_true, beq_iff_eq, decide_eq_true_iff, and_assoc]

variable (hz : ¬ ReachesLockZone s d (s.chan d).position.val) (htg : ¬ ReachesTarget s d (s.chan d).position.val)
include hb hz htg

/-- R59, R60, R65, R66: a step in a motion that reaches neither the lock zone nor the target. -/
theorem passes_stepGeometry (hst : ClosingMotion (s.chan d).state ∨ OpeningMotion (s.chan d).state) :
    Passes d s (stepGeometry d s) := by
  rcases hst with (h | h | h) | (h | h)
  · have k := passes_closing hb (.inl h)
    have hno : ¬ lockZoneReached d
        (passClosing d (decide (s.cfg.plugPoint d < (s.chan d).position.val)) s) = true := fun hk => by
      obtain ⟨hpos, -⟩ := k.follows.leaf
      obtain ⟨hin, hwin, hcls⟩ := lockZoneReached_iff.mp hk
      rw [hpos, k.follows.cfg] at hwin
      rw [k.follows.asserted] at hcls
      rw [k.phase, h] at hin
      have hplug : (s.chan d).position.val ≤ s.cfg.plugPoint d := by
        by_contra hlt
        rw [phaseAt, if_neg (by decide), if_pos (.inl rfl), if_pos (Nat.lt_of_not_le hlt)] at hin
        cases hin
      exact hz ⟨hwin, hcls, .inr ⟨h, hplug⟩⟩
    have heq : stepGeometry d s = passClosing d (decide (s.cfg.plugPoint d < (s.chan d).position.val)) s := by
      unfold stepGeometry
      rw [h]
      exact if_neg hno
    rw [heq]
    exact k
  · have hno : ¬ lockZoneReached d s = true := fun hk => by
      obtain ⟨hin, hwin, hcls⟩ := lockZoneReached_iff.mp hk
      exact hz ⟨hwin, hcls, .inl hin⟩
    have heq : stepGeometry d s = passClosing d (decide (s.cfg.plugPoint d < (s.chan d).position.val)) s := by
      unfold stepGeometry
      rw [h]
      exact if_neg hno
    rw [heq]
    exact passes_closing hb (.inr h)
  · have heq : stepGeometry d s = s := by
      unfold stepGeometry
      rw [h]
    rw [heq]
    exact ⟨.refl d s, rfl, by rw [h]; rfl⟩
  · have heq : stepGeometry d s = passOpening d (decide (s.cfg.plugPoint d ≤ (s.chan d).position.val)) s := by
      unfold stepGeometry
      rw [h]
    rw [heq]
    exact passes_opening hb (.inl h)
  · have heq : stepGeometry d s = passOpening d (decide (s.cfg.plugPoint d ≤ (s.chan d).position.val)) s := by
      unfold stepGeometry
      rw [h]
      dsimp only
      split
      · rename_i tg hd
        exact if_neg (fun hle => htg ⟨h, tg, hd, hle⟩)
      · rfl
    rw [heq]
    exact passes_opening hb (.inr h)

end Geometry

/-! ### A step in a motion, to the guard section (R80 to R82) -/

section Steps
variable {d : Door} {dir : Dir} {s : State}

/-- R81: the step leaves the muted zone with the edge held. -/
abbrev StepFindsEdge (d : Door) (dir : Dir) (s : State) : Prop :=
  s.asserted (.edge d) = true ∧ edgeSees s d (s.chan d).state (s.chan d).position.val = false ∧
    edgeSees s d (phaseAt s d (s.chan d).state (stepTo s d dir).val) (stepTo s d dir).val = true

/-- R82: the step completes the blanking with a force held. -/
abbrev StepFindsForce (d : Door) (s : State) : Prop :=
  s.asserted (.frc d) = true ∧ (s.guard d).blank < s.cfg.blankSteps d ∧ (s.guard d).blank + 1 = s.cfg.blankSteps d

theorem closingMotion_phaseAt {st : ChState} (p : Nat) (h : ClosingMotion st) : ClosingMotion (phaseAt s d st p) := by
  have hpass : ClosingMotion (if s.cfg.plugPoint d < p then .slideClose else .plugIn) := by
    split
    · exact .inl rfl
    · exact .inr (.inl rfl)
  rcases h with rfl | rfl | rfl
  · exact hpass
  · exact hpass
  · exact .inr (.inr rfl)

theorem openingMotion_phaseAt {st : ChState} (p : Nat) (h : OpeningMotion st) : OpeningMotion (phaseAt s d st p) := by
  rw [phaseAt, if_pos h]
  split
  · exact .inr rfl
  · exact .inl rfl

/-- R80 to R82, log 16: a step in a motion, past its geometry, at the guard section. -/
theorem afterStep_of_motion (hb : s.asserted (.bflt d) = false)
    (hst : ClosingMotion (s.chan d).state ∨ OpeningMotion (s.chan d).state) (hc : StepCounts s d dir)
    (hno : ¬ ClosedInSlide s d dir) (hz : ¬ ReachesLockZone s d (stepTo s d dir).val)
    (htg : ¬ ReachesTarget s d (stepTo s d dir).val) : ∃ w, Follows d (counted d dir s) w ∧
      (w.chan d).state = phaseAt s d (s.chan d).state (stepTo s d dir).val ∧
      (StepFindsEdge d dir s →
        afterStep d ((s.chan d).turnEncoder dir) (counted d dir s) = closingDetection d .edge w) ∧
      (¬ StepFindsEdge d dir s → StepFindsForce d s →
        afterStep d ((s.chan d).turnEncoder dir) (counted d dir s) = forceDetection d w) := by
  have h := enters_counted d dir s
  have hchan := chan_counted d dir s
  have hpos : ((counted d dir s).chan d).position = stepTo s d dir := by rw [hchan]
  have hzone : ¬ ReachesLockZone (counted d dir s) d ((counted d dir s).chan d).position.val := by
    unfold ReachesLockZone
    rw [h.cfg, h.asserted, state_counted, hpos]
    exact hz
  have htarget : ¬ ReachesTarget (counted d dir s) d ((counted d dir s).chan d).position.val := by
    unfold ReachesTarget
    rw [h.demand, state_counted, hpos]
    exact htg
  have k := passes_stepGeometry ((h.asserted _).trans hb) hzone htarget (by rw [state_counted]; exact hst)
  have hphase : ((stepGeometry d (counted d dir s)).chan d).state =
      phaseAt s d (s.chan d).state (stepTo s d dir).val := by
    rw [k.phase, state_counted, hpos, phaseAt, phaseAt, h.cfg]
  have hguard : (stepGeometry d (counted d dir s)).guard d = s.guard d := k.guard.trans h.guard
  have hmotion : isMotionState ((stepGeometry d (counted d dir s)).chan d).state = true := by
    rw [hphase, isMotionState_iff]
    exact hst.imp (closingMotion_phaseAt _) (openingMotion_phaseAt _)
  obtain ⟨hleaf, href, -⟩ := k.follows.leaf
  have hlines : ∀ l, (stepGeometry d (counted d dir s)).asserted l = s.asserted l := fun l =>
    (k.follows.asserted l).trans (h.asserted l)
  have hcfg : (stepGeometry d (counted d dir s)).cfg = s.cfg := k.follows.cfg.trans h.cfg
  have hslide : stepInSlide d ((s.chan d).turnEncoder dir) (stepGeometry d (counted d dir s)) =
      stepGeometry d (counted d dir s) :=
    stepInSlide_of_not hc hno (position_turnEncoder _ _) (href.trans (by rw [hchan])) (hleaf.trans hpos) hlines hcfg
  have hfollows := k.follows.trans (follows_supervised d _)
  have hafter : afterStep d ((s.chan d).turnEncoder dir) (counted d dir s) =
      stepInMotion d ((s.chan d).turnEncoder dir) (stepGeometry d (counted d dir s)) := by
    rw [afterStep, hslide, stepAtGuard, if_pos hmotion]
  have hbefore : ((s.chan d).turnEncoder dir).state = (s.chan d).state := by rw [turnEncoder_eq]
  rw [hafter, stepInMotion_eq]
  generalize stepGeometry d (counted d dir s) = v at hphase hguard hleaf hlines hcfg hfollows ⊢
  have hedge : FindsEdge d ((s.chan d).turnEncoder dir) v ↔ StepFindsEdge d dir s := by
    unfold FindsEdge StepFindsEdge
    rw [hlines, edgeWatched_eq hcfg, edgeWatched_eq hcfg, hphase, hleaf, hpos, hbefore, position_turnEncoder]
    exact and_congr_right' and_comm
  have hforce : FindsForce d v ↔ StepFindsForce d s := by
    unfold FindsForce StepFindsForce
    rw [hlines, hguard, hcfg]
    exact ⟨fun ⟨hlt, hmin, hf⟩ => ⟨hf, hlt, by omega⟩, fun ⟨hf, hlt, heq⟩ => ⟨hlt, by omega, hf⟩⟩
  refine ⟨supervised d v, hfollows, (state_supervised d v).trans hphase, fun he => ?_, fun hne hf => ?_⟩
  · rw [if_pos (hedge.mpr he)]
  · rw [if_neg (fun k => hne (hedge.mp k)), if_pos (hforce.mpr hf)]

end Steps

/-! ### The beginning of an opening motion under a held force (R82) -/

section Strained
variable {d : Door} {u : State}

theorem beginOpening_strained (hb : u.asserted (.bflt d) = false) (hs : Strained d u) (slide : Bool) :
    ∃ w, Follows d u w ∧ beginOpening d slide u = openingObstruction d w := by
  have h := ((((Enters.refl d u).enterState .plugOut .free false .off).modChan
    (fun c => { c.openProfile u.cfg d slide with travel := some (.opening, u.cfg.travelOpen d) })).modGuard
    (·.beginMotion (u.cfg.stallInterval d))).bridgeCheck hb
  refine ⟨_, h.follows ⟨rfl, rfl, rfl, rfl, rfl, rfl, rfl⟩ ⟨rfl, rfl, rfl, rfl⟩ ⟨rfl, rfl⟩, ?_⟩
  have hstate := congrArg Channel.state h.chan
  have hfrc := h.asserted (.frc d)
  unfold beginOpening
  dsimp only
  refine if_pos ⟨hs.2, hfrc.trans hs.1, ?_⟩
  rw [hstate]
  cases slide <;> rfl

/-- R64, R68, R95: a decision by position that begins to open. -/
theorem openByPosition_begins {tg : Nat} (htg : (u.demand d).target = some tg)
    (hlt : (u.chan d).position.val + u.cfg.endWindow d < tg) :
    openByPosition d u = beginOpening d (decide (u.cfg.plugPoint d ≤ (u.chan d).position.val)) u := by
  unfold openByPosition
  simp only [htg]
  exact if_neg (Nat.not_le_of_lt hlt)

end Strained

end Sys2Proof.Machine
end

section
/-! PROOF. R81 to R96: detections relieve a closing leaf, and block an opening one. -/

namespace Sys2Proof.Machine

open Claims Safety

section Parts
variable {d : Door} {s : State} (hb : s.asserted (.bflt d) = false)
include hb

/-- R81: the edge, accepted at the guard section. -/
theorem edge_acceptance (lv : Level) {f : State → State}
    (hf : f s = if s.isActive .edge lv then edgeAsserted d s else s) :
    if lv = s.cfg.activeLevel .edge ∧ edgeSees s d (s.chan d).state (s.chan d).position.val = true
    then Detects d .edge s (atChannel d f s).settle
    else (atChannel d f s).settle.chan d = s.chan d ∧ (atChannel d f s).settle.guard d = s.guard d ∧
      Plain d [] s (atChannel d f s).settle := by
  rw [edgeAsserted, edgeWatched_eq (s := s) rfl, restartWarning_eq_self, ite_self] at hf
  have hactive : s.isActive .edge lv = true ↔ lv = s.cfg.activeLevel .edge := beq_iff_eq
  split
  · rename_i h
    rw [if_pos (hactive.mpr h.1), if_pos h.2] at hf
    exact detects_settle ((Follows.refl d s).detects hb (ne_standing_of_motion (.inl (closing_of_edgeSees h.2))) hf)
  · rename_i h
    refine stands_of (hf.trans ?_)
    split
    · rename_i ha
      exact if_neg (fun he => h ⟨hactive.mp ha, he⟩)
    · rfl

/-- R82: a force taken in a motion. -/
theorem force_detection {w : State} {f : State → State} (k : Follows d s w)
    (hw : ClosingMotion (s.chan d).state → ClosingMotion (w.chan d).state)
    (ho : OpeningMotion (s.chan d).state → OpeningMotion (w.chan d).state) (hf : f s = forceDetection d w) :
    (ClosingMotion (s.chan d).state → Detects d .force s (atChannel d f s).settle) ∧
    (OpeningMotion (s.chan d).state → Claims.Blocks d s (atChannel d f s).settle) := by
  refine ⟨fun h => ?_, fun h => ?_⟩
  · rw [forceDetection_closing (hw h)] at hf
    exact detects_settle (k.detects hb (ne_standing_of_motion (.inl h)) hf)
  · rw [forceDetection_opening (ho h)] at hf
    exact blocks_settle_of (k.blocks hb hf)

/-- R82: the force comparison, accepted at the guard section. -/
theorem force_acceptance (lv : Level) {f : State → State}
    (hf : f s = if s.isActive .drive lv then forceAsserted d s else s) :
    if lv = s.cfg.activeLevel .drive ∧ s.cfg.blankSteps d ≤ (s.guard d).blank ∧
      (ClosingMotion (s.chan d).state ∨ OpeningMotion (s.chan d).state)
    then (ClosingMotion (s.chan d).state → Detects d .force s (atChannel d f s).settle) ∧
      (OpeningMotion (s.chan d).state → Claims.Blocks d s (atChannel d f s).settle)
    else (atChannel d f s).settle.chan d = s.chan d ∧ (atChannel d f s).settle.guard d = s.guard d ∧
      Plain d [] s (atChannel d f s).settle := by
  have hactive : s.isActive .drive lv = true ↔ lv = s.cfg.activeLevel .drive := beq_iff_eq
  split
  · rename_i h
    obtain ⟨hlv, hblank, hst⟩ := h
    rw [if_pos (hactive.mpr hlv), forceAsserted, if_pos ⟨isMotionState_iff.mpr hst, hblank⟩] at hf
    exact force_detection hb (.refl d s) id id hf
  · rename_i h
    refine stands_of (hf.trans ?_)
    split
    · rename_i ha
      exact if_neg (fun ⟨hst, hblank⟩ => h ⟨hactive.mp ha, hblank, isMotionState_iff.mp hst⟩)
    · rfl

omit hb in
/-- R84: a stall in an opening motion ends in OPEN inside the end window of the target, and else blocks. -/
theorem stallDetection_opening (h : OpeningMotion (s.chan d).state) : stallDetection d s =
    if ∃ tg ∈ (s.demand d).target, tg ≤ (s.chan d).position.val + s.cfg.endWindow d then enterOpen d s
    else openingObstruction d s := by
  unfold stallDetection
  rw [if_pos (isOpeningState_of_opening h)]
  cases (s.demand d).target <;> simp

/-- R83, R84: the stall grace. -/
theorem stall_grace {f : State → State} (hf : f s = stallGraceEnd d s) :
    ((s.guard d).stage = .warn → ClosingMotion (s.chan d).state → Detects d .stall s (atChannel d f s).settle) ∧
    ((s.guard d).stage = .warn → OpeningMotion (s.chan d).state →
      if ∃ tg ∈ (s.demand d).target, tg ≤ (s.chan d).position.val + s.cfg.endWindow d
      then Arrives d s (atChannel d f s).settle ∧ SameLeaf (s.chan d) ((atChannel d f s).settle.chan d) ∧
        Plain d [.countdownStart d] s (atChannel d f s).settle
      else Claims.Blocks d s (atChannel d f s).settle) ∧
    ((s.guard d).stage ≠ .warn → (atChannel d f s).settle.chan d = s.chan d ∧
      (atChannel d f s).settle.guard d = s.guard d ∧ Plain d [] s (atChannel d f s).settle) := by
  unfold stallGraceEnd at hf
  refine ⟨fun hw h => ?_, fun hw h => ?_, fun hw => ?_⟩
  · rw [if_pos hw, stallDetection, isOpeningState_of_closing h] at hf
    exact detects_settle ((Follows.refl d s).detects hb (ne_standing_of_motion (.inl h)) hf)
  · rw [if_pos hw, stallDetection_opening h] at hf
    split
    · rename_i htg
      rw [if_pos htg] at hf
      obtain ⟨harrives, hleaf, hplain⟩ := (Follows.refl d s).arrives hb hf
      exact ⟨harrives, hleaf, plain_settle hplain⟩
    · rename_i htg
      rw [if_neg htg] at hf
      exact blocks_settle_of ((Follows.refl d s).blocks hb hf)
  · rw [if_neg hw] at hf
    exact stands_of hf

end Parts

/-! ### A step that finds the edge or the force (R81, R82, log 16) -/

section Step
variable {d : Door} {dir : Dir} {s : State} (hb : s.asserted (.bflt d) = false)
  (hst : ClosingMotion (s.chan d).state ∨ OpeningMotion (s.chan d).state) (hc : StepCounts s d dir)
  (hno : ¬ ClosedInSlide s d dir) (hz : ¬ ReachesLockZone s d (stepTo s d dir).val)
  (htg : ¬ ReachesTarget s d (stepTo s d dir).val)
include hb hst hc hno hz htg

/-- What a detection at a step writes, it does not write to the encoder lines. -/
theorem turned_detection (hfinds : StepFindsEdge d dir s ∨ StepFindsForce d s) :
    Turned d ((s.chan d).turnEncoder dir).encoder
      (afterStep d ((s.chan d).turnEncoder dir) (counted d dir s)) := by
  obtain ⟨w, k, -, hedge, hforce⟩ := afterStep_of_motion hb hst hc hno hz htg
  have hturned := k.turned turned_counted
  by_cases he : StepFindsEdge d dir s
  · rw [hedge he]
    exact hturned.closingDetection .edge
  · rw [hforce he (hfinds.resolve_left he), forceDetection]
    split
    · exact hturned.openingObstruction
    · exact hturned.closingDetection .force

/-- The edge is taken first. -/
theorem step_finds_edge {f : State → State}
    (hf : f (counted d dir s) = afterStep d ((s.chan d).turnEncoder dir) (counted d dir s))
    (he : StepFindsEdge d dir s) : Detects d .edge (counted d dir s) (atChannel d f (counted d dir s)).settle := by
  obtain ⟨w, k, -, hedge, -⟩ := afterStep_of_motion hb hst hc hno hz htg
  have hne : ((counted d dir s).chan d).state ≠ .standing := by
    rw [state_counted]
    exact ne_standing_of_motion hst
  exact detects_settle (k.detects (((enters_counted d dir s).asserted _).trans hb) hne (hf.trans (hedge he)))

theorem step_finds_force {f : State → State}
    (hf : f (counted d dir s) = afterStep d ((s.chan d).turnEncoder dir) (counted d dir s))
    (hne : ¬ StepFindsEdge d dir s) (hfrc : StepFindsForce d s) :
    (ClosingMotion (s.chan d).state →
      Detects d .force (counted d dir s) (atChannel d f (counted d dir s)).settle) ∧
    (OpeningMotion (s.chan d).state →
      Claims.Blocks d (counted d dir s) (atChannel d f (counted d dir s)).settle) := by
  obtain ⟨w, k, hphase, -, hforce⟩ := afterStep_of_motion hb hst hc hno hz htg
  have hclosing : ClosingMotion ((counted d dir s).chan d).state → ClosingMotion (w.chan d).state := fun h => by
    rw [hphase]
    exact closingMotion_phaseAt _ (state_counted ▸ h)
  have hopening : OpeningMotion ((counted d dir s).chan d).state → OpeningMotion (w.chan d).state := fun h => by
    rw [hphase]
    exact openingMotion_phaseAt _ (state_counted ▸ h)
  have h := force_detection (((enters_counted d dir s).asserted _).trans hb) k hclosing hopening
    (hf.trans (hforce hne hfrc))
  rw [state_counted] at h
  exact h

end Step

/-! ### The beginning of an opening motion under a held force (R82) -/

section Strained
variable {d : Door} {s : State} (hb : s.asserted (.bflt d) = false) (hs : Strained d s)
include hb hs

theorem blocks_of_begins {f : State → State} {slide : Bool} (hf : f s = beginOpening d slide s) :
    Claims.Blocks d s (atChannel d f s).settle := by
  obtain ⟨w, k, hw⟩ := beginOpening_strained hb hs slide
  exact blocks_settle_of (k.blocks hb (hf.trans hw))

/-- R117: the locked switch broken in UNLOCKING. -/
theorem blocks_of_unlocked {f : State → State} {lv : Level} (hst : (s.chan d).state = .unlocking)
    (hlv : lv ≠ s.cfg.activeLevel .switch)
    (hf : f s = if s.isActive .switch lv then lksMade d s else lksBroken d s) :
    Claims.Blocks d (s.modChan d (fun c => { c with plaus := none })) (atChannel d f s).settle := by
  have h := (Enters.refl d s).modChan (fun c => { c with plaus := none })
  have hstate : ((s.modChan d (fun c => { c with plaus := none })).chan d).state = .unlocking :=
    (congrArg Channel.state h.chan).trans hst
  have hno : ¬ s.isActive .switch lv = true := fun ha => hlv (beq_iff_eq.mp ha)
  rw [if_neg hno, lksBroken] at hf
  rw [hstate, if_neg (by decide), if_pos rfl] at hf
  rw [atChannel_from (s := s) (hstate.trans hst.symm)]
  exact blocks_of_begins ((h.asserted _).trans hb) ⟨(h.asserted _).trans hs.1, by rw [h.cfg]; exact hs.2⟩ hf

end Strained

/-! ### The event taken, and the state that it was sent in (R72) -/

section Taken
variable {d : Door} {s s1 : State} {c : Instr}

/-- What is taken from those outstanding is nothing to a doorway. -/
theorem sameToDoorway_of_taken (d : Door) (ht : s.takeSent c = some s1) : s1.chan d = s.chan d ∧
    s1.guard d = s.guard d ∧ s1.cfg = s.cfg ∧ ∀ l, s1.asserted l = s.asserted l := by
  obtain ⟨r, -, rfl⟩ := State.takeSent_eq ht
  exact ⟨rfl, rfl, rfl, fun _ => rfl⟩

theorem edgeSees_congr (h : s1.cfg = s.cfg) (st : ChState) (p : Nat) : edgeSees s1 d st p = edgeSees s d st p := by
  unfold edgeSees
  rw [h]

end Taken

/-- Settles O48, by the event: what each finds is an edge, a force or a stall, which a closing motion takes as a closing
detection and an opening one as an obstruction. -/
theorem detectionsRelieveOrBlock : Obligations.DetectionsRelieveOrBlock := by
  intro d s hrun hb
  refine ⟨fun lv s1 ht hr => ?_, fun lv s1 ht hr => ?_, fun hr => ?_, fun dir hr hc hno => ?_,
    fun hs => ⟨fun lv s1 ht hr hst hlv => ?_, fun c tg hr hcause hopens htg hlt => ?_⟩⟩
  · obtain ⟨hchan, hguard, hcfg, hlines⟩ := sameToDoorway_of_taken d ht
    have h := edge_acceptance ((hlines _).trans hb) lv
      (f := fun s => if s.isActive .edge lv then edgeAsserted d s else s) rfl
    rw [edgeSees_congr hcfg, hcfg, hchan, hguard] at h
    exact ⟨_, actSent_inRun hrun ht hr _, h⟩
  · obtain ⟨hchan, hguard, hcfg, hlines⟩ := sameToDoorway_of_taken d ht
    have h := force_acceptance ((hlines _).trans hb) lv
      (f := fun s => if s.isActive .drive lv then forceAsserted d s else s) rfl
    rw [hcfg, hchan, hguard] at h
    exact ⟨_, actSent_inRun hrun ht hr _, h⟩
  · obtain ⟨hclosing, hopening, hother⟩ := stall_grace hb (f := stallGraceEnd d) rfl
    exact ⟨_, act_inRun ⟨hrun, hr⟩ (stallGraceEnd d), hclosing, fun hw h _ => hopening hw h, hother⟩
  · dsimp only
    intro hst hz htg hfinds
    have hexec := exec_encoderStep ⟨hrun, hr⟩ (ne_unfitted_of_motion hst) hc
    have hturned := Turned.atChannel (turned_detection hb hst hc hno hz htg hfinds)
    have hedge := step_finds_edge hb hst hc hno hz htg (f := afterStep d ((s.chan d).turnEncoder dir)) rfl
    have hforce := step_finds_force hb hst hc hno hz htg (f := afterStep d ((s.chan d).turnEncoder dir)) rfl
    have hmoved := leafMoved_eq hturned.settle
    generalize (atChannel d (afterStep d ((s.chan d).turnEncoder dir)) (counted d dir s)).settle = t
      at hexec hedge hforce hmoved
    rw [← hmoved] at hedge hforce
    exact ⟨t, hexec, hedge, fun hne => (hforce hne (hfinds.resolve_left hne)).1,
      fun hne => (hforce hne (hfinds.resolve_left hne)).2⟩
  · obtain ⟨hchan, -, hcfg, hlines⟩ := sameToDoorway_of_taken d ht
    exact ⟨_, actSent_inRun hrun ht hr _, blocks_of_unlocked (d := d) (lv := lv)
      (f := fun s => if s.isActive .switch lv then lksMade d s else lksBroken d s) ((hlines _).trans hb)
      ⟨(hlines _).trans hs.1, by rw [hcfg]; exact hs.2⟩ (by rw [hchan]; exact hst) (by rw [hcfg]; exact hlv) rfl⟩
  · have hbegins := openByPosition_begins htg hlt
    rcases hcause with ⟨rfl, hpause⟩ | ⟨rfl, hretry⟩
    · refine ⟨_, act_inRun ⟨hrun, hr⟩ (pauseEnd d), blocks_of_begins hb hs (Eq.trans ?_ hbegins)⟩
      rw [pauseEnd, if_neg (by simpa using hpause), hopens]
    · refine ⟨_, act_inRun ⟨hrun, hr⟩ (retryWaitEnd d), blocks_of_begins hb hs (Eq.trans ?_ hbegins)⟩
      rw [retryWaitEnd, if_neg (by simpa using hretry), retryNow, if_pos hopens]

end Sys2Proof.Machine
end
